-- ==== Sys2Proof/Word.lean ====
section
/-! DEFINITION. The bit-vector types of the DPB. -/

namespace Sys2Proof

/-- A register, a bus word, an input FIFO word: 32 bits (00 R9). -/
abbrev Word := BitVec 32

/-- An output stream byte or one byte lane of a word (00 R9, 20 R64). -/
abbrev Byte := BitVec 8

/-- One cell of the row buffer, read as a two's-complement integer (10 R39). -/
abbrev Cell := BitVec 10

end Sys2Proof
end

