-- ==== Sys2Proof/Config.lean ====
section
/-! DEFINITION. What an implementation fixes (00 R9), and the values the spec leaves open. -/

namespace Sys2Proof

/-- The parameters of an implementation (00 R9). They are data of the machine, so that a claim can be
made for every legal choice; no step changes them (log 1). -/
structure Params where
  /-- Widest image the row buffer holds, in pixels. -/
  wMax : Nat
  /-- Input FIFO capacity in 32-bit words. -/
  inDepth : Nat
  /-- Output FIFO capacity in bytes. -/
  outDepth : Nat
  /-- Bus address of the 64-byte register window. -/
  base : Nat
  deriving DecidableEq, Repr

/-- The legal ranges of the parameters (00 R9). -/
abbrev Params.legal (p : Params) : Prop :=
  p.wMax % 8 = 0 ∧ 8 ≤ p.wMax ∧ p.wMax ≤ 65528 ∧
  1 ≤ p.inDepth ∧ p.inDepth ≤ 65535 ∧
  1 ≤ p.outDepth ∧ p.outDepth ≤ 65535 ∧
  p.base % 64 = 0

/-- The defaults of 00 R9. BASE is OPEN in the spec and has no default: DESIGN CHOICE 0 (log 2), unsafe. -/
def Params.default : Params := { wMax := 384, inDepth := 16, outDepth := 64, base := 0 }

/-- FREE VALUE: JW outside RUN ("unspecified", 10 R44, 93 U5; log 4). The argument numbers the draw. -/
opaque Config.unspecifiedJW : Nat → Word
/-- FREE VALUE: JH outside RUN (10 R44, 93 U5; log 4). -/
opaque Config.unspecifiedJH : Nat → Word
/-- FREE VALUE: JDW outside RUN (10 R44, 93 U5; log 4). -/
opaque Config.unspecifiedJDW : Nat → Bool
/-- FREE VALUE: JDH outside RUN (10 R44, 93 U5; log 4). -/
opaque Config.unspecifiedJDH : Nat → Bool
/-- FREE VALUE: JWRAP outside RUN (10 R44, 93 U5; log 4). -/
opaque Config.unspecifiedJWRAP : Nat → Bool
/-- FREE VALUE: seq outside RUN (10 R45, 93 U5; log 4). -/
opaque Config.unspecifiedSeq : Nat → Nat

/-- FREE VALUE: what a 10-bit cell holds after a write of an integer outside `[-512, 511]`.
The spec states no such value, because 43 R195 says that none is ever written (log 15). -/
opaque Config.cellOfOverflow : Int → Cell

end Sys2Proof
end

