-- ==== Sys2Proof/Syntax.lean ====
section
/-! DEFINITION. The instructions of the DPB: the host's transactions and the commands (00 R1). -/

namespace Sys2Proof

/-- One constructor for each row of `spec/opcode_table.json`, in the table's order.
`v` is the 32-bit write data of a write transaction (30 R82) or the command word (30 R83). -/
inductive Instr where
  | rdId
  | wrId (v : Word)
  | rdCmd
  | wrCmd (v : Word)
  | rdStatus
  | wrStatus (v : Word)
  | rdConfig
  | wrConfig (v : Word)
  | rdWidth
  | wrWidth (v : Word)
  | rdHeight
  | wrHeight (v : Word)
  | rdIrqEn
  | wrIrqEn (v : Word)
  | rdLevels
  | wrLevels (v : Word)
  | rdInData
  | wrInData (v : Word)
  | rdOutData
  | wrOutData (v : Word)
  | rdInRemain
  | wrInRemain (v : Word)
  /-- RD_RSVD at offset 0x2C. -/
  | rdRsvd2C
  /-- RD_RSVD at offset `0x30 + 4k`. -/
  | rdRsvdHi (k : BitVec 2)
  /-- WR_RSVD at offset 0x2C. -/
  | wrRsvd2C (v : Word)
  /-- WR_RSVD at offset `0x30 + 4k`. -/
  | wrRsvdHi (k : BitVec 2) (v : Word)
  /-- MISALIGNED, `off[0] = 1`: `we` is WE, `idx` is `off[5:2]`, `al1` is `off[1]`. -/
  | misalignedOdd (we : Bool) (idx : BitVec 4) (al1 : Bool) (v : Word)
  /-- MISALIGNED, `off[1:0] = 10`. -/
  | misalignedTwo (we : Bool) (idx : BitVec 4) (v : Word)
  | nop
  | start
  | abort
  | clear
  /-- CMD_RESERVED: any command word other than the four of 30 R84. -/
  | cmdReserved (v : Word)
  deriving DecidableEq, Repr

end Sys2Proof
end

