-- ==== Sys2Proof/WellFormed.lean ====
section
/-! DEFINITION. Which instruction terms stand for an encoding of the spec. -/

namespace Sys2Proof

/-- The command words of NOP, START, ABORT and CLEAR (30 R84). -/
abbrev isCommandWord (v : Word) : Bool :=
  decide (v = 0#32 ∨ v = 1#32 ∨ v = 2#32 ∨ v = 3#32)

/-- The terms that an encoding can give. A reserved command word is none of the four (30 R84), and a
misaligned read carries no write data (30 R82). Every other term is an encoding: the operand types
admit nothing else. -/
abbrev Instr.wf (i : Instr) : Bool :=
  match i with
  | .cmdReserved v => !isCommandWord v
  | .misalignedOdd we _ _ v => we || decide (v = 0#32)
  | .misalignedTwo we _ v => we || decide (v = 0#32)
  | .rdId => true
  | .wrId _ => true
  | .rdCmd => true
  | .wrCmd _ => true
  | .rdStatus => true
  | .wrStatus _ => true
  | .rdConfig => true
  | .wrConfig _ => true
  | .rdWidth => true
  | .wrWidth _ => true
  | .rdHeight => true
  | .wrHeight _ => true
  | .rdIrqEn => true
  | .wrIrqEn _ => true
  | .rdLevels => true
  | .wrLevels _ => true
  | .rdInData => true
  | .wrInData _ => true
  | .rdOutData => true
  | .wrOutData _ => true
  | .rdInRemain => true
  | .wrInRemain _ => true
  | .rdRsvd2C => true
  | .rdRsvdHi _ => true
  | .wrRsvd2C _ => true
  | .wrRsvdHi _ _ => true
  | .nop => true
  | .start => true
  | .abort => true
  | .clear => true

end Sys2Proof
end

