-- ==== Sys2Proof/Decode.lean ====
section
/-! DEFINITION. The decoder and, after it, the encoder.

A FRAME is the bytes of one request. The spec gives the bits of the formats BUS and CMD (30 R80-R84)
but no byte transport; the frame layout is the model's own (log 9, DESIGN CHOICE, safe):
one byte, the selector, for a BUS read; the selector and the four lanes of the write data, lane 0
first, for a BUS write; the four lanes of the word for a CMD word. -/

namespace Sys2Proof

/-- Why a frame is no instruction. Raised by `decode`; safe: no frame of a host request is rejected. -/
inductive DecodeError where
  /-- The frame has a length that no format has. -/
  | badLength
  /-- Bit 7 of the selector byte is set: a selector has 7 bits (30 R81). -/
  | selectorTooWide
  /-- A selector with WE = 1 and no write data. -/
  | writeWithoutData
  /-- A selector with WE = 0 and write data. -/
  | readWithData
  deriving DecidableEq, Repr

/-! ### Lanes (20 R64) -/

/-- Byte lane `k` of a word: `v[8k+7 : 8k]`. -/
def lane (v : Word) (k : Nat) : Byte := v.extractLsb' (8 * k) 8

/-- The word with the given lanes, lane 0 first. -/
def ofLanes (b0 b1 b2 b3 : Byte) : Word := b3 ++ b2 ++ b1 ++ b0

/-! ### Decoding -/

/-- The read transaction of slot IDX (30 R81). -/
def decodeRead (idx : BitVec 4) : Instr :=
  match idx.toNat with
  | 0x0 => .rdId
  | 0x1 => .rdCmd
  | 0x2 => .rdStatus
  | 0x3 => .rdConfig
  | 0x4 => .rdWidth
  | 0x5 => .rdHeight
  | 0x6 => .rdIrqEn
  | 0x7 => .rdLevels
  | 0x8 => .rdInData
  | 0x9 => .rdOutData
  | 0xA => .rdInRemain
  | 0xB => .rdRsvd2C
  | _ => .rdRsvdHi (idx.extractLsb' 0 2)

/-- The write transaction of slot IDX (30 R81). -/
def decodeWrite (idx : BitVec 4) (v : Word) : Instr :=
  match idx.toNat with
  | 0x0 => .wrId v
  | 0x1 => .wrCmd v
  | 0x2 => .wrStatus v
  | 0x3 => .wrConfig v
  | 0x4 => .wrWidth v
  | 0x5 => .wrHeight v
  | 0x6 => .wrIrqEn v
  | 0x7 => .wrLevels v
  | 0x8 => .wrInData v
  | 0x9 => .wrOutData v
  | 0xA => .wrInRemain v
  | 0xB => .wrRsvd2C v
  | _ => .wrRsvdHi (idx.extractLsb' 0 2) v

/-- Format BUS: WE is bit 6, IDX is bits 5:2, AL is bits 1:0 and must be 00 (30 R81). The argument is
the selector byte; its bit 7 is no part of the selector. `v` is the write data, 0 for a read. -/
def decodeSelector (sel : Byte) (v : Word) : Instr :=
  if sel.getLsbD 0 then
    .misalignedOdd (sel.getLsbD 6) (sel.extractLsb' 2 4) (sel.getLsbD 1) v
  else if sel.getLsbD 1 then
    .misalignedTwo (sel.getLsbD 6) (sel.extractLsb' 2 4) v
  else if sel.getLsbD 6 then
    decodeWrite (sel.extractLsb' 2 4) v
  else
    decodeRead (sel.extractLsb' 2 4)

/-- Format CMD: the whole word must match (30 R84). -/
def decodeCommand (v : Word) : Instr :=
  if v = 0#32 then .nop
  else if v = 1#32 then .start
  else if v = 2#32 then .abort
  else if v = 3#32 then .clear
  else .cmdReserved v

/-- The instruction of a frame, on any bytes. -/
def decode (bytes : List Byte) : Except DecodeError Instr :=
  match bytes with
  | [sel] =>
    if sel.getLsbD 7 then .error .selectorTooWide
    else if sel.getLsbD 6 then .error .writeWithoutData
    else .ok (decodeSelector sel 0#32)
  | [b0, b1, b2, b3] => .ok (decodeCommand (ofLanes b0 b1 b2 b3))
  | [sel, b0, b1, b2, b3] =>
    if sel.getLsbD 7 then .error .selectorTooWide
    else if sel.getLsbD 6 then .ok (decodeSelector sel (ofLanes b0 b1 b2 b3))
    else .error .readWithData
  | _ => .error .badLength

/-! ### Encoding -/

/-- The frame of a BUS read. -/
def readFrame (sel : Byte) : List Byte := [sel]

/-- The frame of a CMD word. -/
def commandFrame (v : Word) : List Byte := [lane v 0, lane v 1, lane v 2, lane v 3]

/-- The frame of a BUS write. -/
def writeFrame (sel : Byte) (v : Word) : List Byte := sel :: commandFrame v

/-- The frame of a BUS transaction, by its WE bit. -/
def busFrame (we : Bool) (sel : Byte) (v : Word) : List Byte :=
  if we then writeFrame sel v else readFrame sel

/-- The selector byte `{0, WE, IDX, AL}` (30 R81). -/
def selectorByte (we : Bool) (idx : BitVec 4) (al : BitVec 2) : Byte :=
  0#1 ++ BitVec.ofBool we ++ idx ++ al

/-- The frame of an instruction, from the tables of 30 R81 and R84. -/
def encode (i : Instr) : List Byte :=
  match i with
  | .rdId => readFrame 0x00#8
  | .wrId v => writeFrame 0x40#8 v
  | .rdCmd => readFrame 0x04#8
  | .wrCmd v => writeFrame 0x44#8 v
  | .rdStatus => readFrame 0x08#8
  | .wrStatus v => writeFrame 0x48#8 v
  | .rdConfig => readFrame 0x0C#8
  | .wrConfig v => writeFrame 0x4C#8 v
  | .rdWidth => readFrame 0x10#8
  | .wrWidth v => writeFrame 0x50#8 v
  | .rdHeight => readFrame 0x14#8
  | .wrHeight v => writeFrame 0x54#8 v
  | .rdIrqEn => readFrame 0x18#8
  | .wrIrqEn v => writeFrame 0x58#8 v
  | .rdLevels => readFrame 0x1C#8
  | .wrLevels v => writeFrame 0x5C#8 v
  | .rdInData => readFrame 0x20#8
  | .wrInData v => writeFrame 0x60#8 v
  | .rdOutData => readFrame 0x24#8
  | .wrOutData v => writeFrame 0x64#8 v
  | .rdInRemain => readFrame 0x28#8
  | .wrInRemain v => writeFrame 0x68#8 v
  | .rdRsvd2C => readFrame 0x2C#8
  | .rdRsvdHi k => readFrame (selectorByte false (3#2 ++ k) 0#2)
  | .wrRsvd2C v => writeFrame 0x6C#8 v
  | .wrRsvdHi k v => writeFrame (selectorByte true (3#2 ++ k) 0#2) v
  | .misalignedOdd we idx al1 v => busFrame we (selectorByte we idx (BitVec.ofBool al1 ++ 1#1)) v
  | .misalignedTwo we idx v => busFrame we (selectorByte we idx 2#2) v
  | .nop => commandFrame 0#32
  | .start => commandFrame 1#32
  | .abort => commandFrame 2#32
  | .clear => commandFrame 3#32
  | .cmdReserved v => commandFrame v

/-! ### The opcode table's numbering -/

/-- The frame of the table's word `w` of `nbits` bits: a row of format CMD has 32 bits, and a row of
format BUS has its selector in bits 6:0 and a write's data from bit 8 up. A read has no bit beside its
selector. -/
def tableFrame (nbits w : Nat) : List Byte :=
  if nbits = 32 then commandFrame (BitVec.ofNat 32 w)
  else busFrame (w.testBit 6) (BitVec.ofNat 8 (w % 128)) (BitVec.ofNat 32 (w / 256))

/-- The instruction the decoder reads from the opcode table's word `w` of `nbits` bits. -/
def decodeTableWord (nbits w : Nat) : Option Instr :=
  match decode (tableFrame nbits w) with
  | .ok i => some i
  | .error _ => none

end Sys2Proof
end

