-- ==== Sys2Proof/Machine/State.lean ====
section
/-! DEFINITION. The state of the DPB (10_state.md), its faults and refusals, and the state after reset. -/

namespace Sys2Proof.Machine

/-- STATUS.STATE (10 R26). -/
inductive JobState where
  | idle
  | run
  | done
  | error
  deriving DecidableEq, Repr

/-- STATUS.ERR_CODE (60 R231). The codes 5 to 15 are never written, so they are no values here. -/
inductive ErrCode where
  | none
  /-- 1: `WIDTH mod 8 ≠ 0`. -/
  | dimNotMult8
  /-- 2: a dimension exceeds the header's range. -/
  | dimHdrRange
  /-- 3: `WIDTH > W_MAX`. -/
  | dimCapacity
  /-- 4: an IN_DATA write found no room, or the job needs no more words. -/
  | inOverrun
  deriving DecidableEq, Repr

/-- An entry of OUTQ (10 R43). -/
structure OutEntry where
  byte : Byte
  last : Bool
  deriving DecidableEq, Repr

/-- ROWBUF (10 R39): the cells that hold a value, by address, strictly rising. An address that is not
listed is a cell without a value (10 R41). The address of (slot, column) is `cellAddr` (log 13). -/
abbrev Memory := List (Nat × Cell)

/-- One host bus access as the bus carries it (20 R61-R63). -/
structure Access where
  write : Bool
  /-- Bus address. -/
  addr : Nat
  /-- Size in bytes. -/
  size : Nat
  /-- Write data; a read carries none, and the field is not used. -/
  data : Word
  deriving DecidableEq, Repr

/-- A request of the host: an access, or a command word written to CMD, which is format CMD and the
pseudo-instruction `CMD` of 30 R93 (log 10). -/
inductive HostRequest where
  | access (a : Access)
  | command (v : Word)
  deriving DecidableEq, Repr

/-- Who takes the next step (70 R280). -/
inductive Event where
  | host (r : HostRequest)
  | engine
  | reset
  deriving DecidableEq, Repr

/-- What the bus answers to the host. -/
inductive Reply where
  /-- A write is complete. -/
  | ack
  /-- A read returns its value. -/
  | data (v : Word)
  deriving DecidableEq, Repr

/-- What the host observes of one access (70 R281): the selector it used, the reply, and the IRQ line
after the access. -/
structure Obs where
  sel : BitVec 7
  reply : Reply
  irq : Bool
  deriving DecidableEq, Repr

/-- The state. The fields up to `rowbuf` are the spec's; the last three are the model's own. -/
structure State where
  /-- W_MAX, IN_DEPTH, OUT_DEPTH, BASE (00 R9); no step changes them. -/
  params : Params
  /-- STATUS.STATE (10 R26). -/
  jobState : JobState
  /-- STATUS.CMD_ERR (10 R27). -/
  cmdErr : Bool
  /-- STATUS.ERR_CODE (10 R29). -/
  errCode : ErrCode
  /-- STATUS.PRODUCED (10 R30). -/
  produced : Bool
  /-- CONFIG.DW (10 R31). -/
  dw : Bool
  /-- CONFIG.DH (10 R31). -/
  dh : Bool
  /-- CONFIG.LEFT_WRAP (10 R31). -/
  leftWrap : Bool
  /-- WIDTH (10 R32). -/
  width : Word
  /-- HEIGHT (10 R33). -/
  height : Word
  /-- IRQ_EN.DONE_EN (10 R34). -/
  doneEn : Bool
  /-- IRQ_EN.ERR_EN (10 R34). -/
  errEn : Bool
  /-- IRQ_EN.CMDERR_EN (10 R34). -/
  cmdErrEn : Bool
  /-- IN_REMAIN (10 R38). -/
  inRemain : Word
  /-- INQ, oldest first (10 R42). -/
  inq : List Word
  /-- OUTQ, oldest first (10 R43). -/
  outq : List OutEntry
  /-- Job latch JW (10 R44). -/
  jw : Word
  /-- Job latch JH (10 R44). -/
  jh : Word
  /-- Job latch JDW (10 R44). -/
  jdw : Bool
  /-- Job latch JDH (10 R44). -/
  jdh : Bool
  /-- Job latch JWRAP (10 R44). -/
  jwrap : Bool
  /-- The engine's position in the job program (10 R45). -/
  seq : Nat
  /-- ROWBUF (10 R39). -/
  rowbuf : Memory
  /-- MODEL'S OWN: how many times unspecified values have been drawn (log 5). -/
  freeCtr : Nat
  /-- MODEL'S OWN: the steps still to take, oldest first (log 6). -/
  events : List Event
  /-- MODEL'S OWN: what the host has observed, oldest first (log 7). -/
  trace : List Obs
  deriving DecidableEq, Repr

/-- Why the machine stops. Both are unreachable in a job that START began (42 R173, R174). -/
inductive Fault where
  /-- UNWRITTEN_CELL: the engine reads a cell without a value (10 R41). Raised by VISIT and PACK. Safe. -/
  | unwrittenCell
  /-- The engine addresses a column at or above W_MAX, where ROWBUF has no cell (10 R39).
  Raised by LOAD, VISIT and PACK. Safe (log 14). -/
  | noSuchCell
  deriving DecidableEq, Repr

/-- Why a request has no meaning. -/
inductive Refusal where
  /-- An instruction without a meaning. Raised by an arm of `exec`; no arm raises it. Safe. -/
  | notModelled (mnemonic : String)
  /-- A 32-bit access with `off mod 4 ≠ 0` (20 R63). Raised by MISALIGNED. Safe. -/
  | misaligned
  /-- An access of a size other than 32 bits (20 R62). Raised by `step`. Safe. -/
  | accessSize
  /-- The frame of a request is no instruction. Raised by `step`; no request has such a frame. Safe. -/
  | badFrame (e : DecodeError)
  deriving DecidableEq, Repr

/-- The machine right after reset (10 R50, 70 R260), with the default parameters (00 R9).
The latches and `seq` are unspecified in the spec: DESIGN CHOICE 0 (log 3), unsafe.
BASE is OPEN: DESIGN CHOICE 0 (log 2), unsafe. `freeCtr`, `events`, `trace`: logs 5, 6, 7. -/
def State.reset : State where
  params := Params.default
  jobState := .idle
  cmdErr := false
  errCode := .none
  produced := false
  dw := false
  dh := false
  leftWrap := false
  width := 384#32
  height := 0#32
  doneEn := false
  errEn := false
  cmdErrEn := false
  inRemain := 0#32
  inq := []
  outq := []
  jw := 0#32
  jh := 0#32
  jdw := false
  jdh := false
  jwrap := false
  seq := 0
  rowbuf := []
  freeCtr := 0
  events := []
  trace := []

end Sys2Proof.Machine
end

