-- ==== Sys2Proof/Machine/Flags.lean ====
section
/-! DEFINITION. The status fields and the interrupt line. The DPB has no condition codes (10 R47). -/

namespace Sys2Proof.Machine

/-- The STATE field's encoding (10 R26). -/
def JobState.code (j : JobState) : BitVec 2 :=
  match j with
  | .idle => 0#2
  | .run => 1#2
  | .done => 2#2
  | .error => 3#2

/-- The ERR_CODE field's encoding (60 R231). -/
def ErrCode.code (c : ErrCode) : BitVec 4 :=
  match c with
  | .none => 0#4
  | .dimNotMult8 => 1#4
  | .dimHdrRange => 2#4
  | .dimCapacity => 3#4
  | .inOverrun => 4#4

/-- The level of the interrupt output (60 R241), also read as STATUS.IRQ (10 R28). -/
def State.irq (s : State) : Bool :=
  (s.doneEn && s.jobState == .done) ||
  (s.errEn && s.jobState == .error) ||
  (s.cmdErrEn && s.cmdErr)

/-- STATUS (10 R25, 40 R104): `{PRODUCED, ERR_CODE, IRQ, CMD_ERR, STATE}`, zero-extended. -/
def State.statusWord (s : State) : Word :=
  0#23 ++ BitVec.ofBool s.produced ++ s.errCode.code ++ BitVec.ofBool s.irq ++
    BitVec.ofBool s.cmdErr ++ s.jobState.code

end Sys2Proof.Machine
end

