-- ==== Sys2Proof/Machine/Operands.lean ====
section
/-! DEFINITION. The forms of the data words: register read values (10_state.md), the fields a register
write takes (30 R82), and the pixels of an input word (30 R85). -/

namespace Sys2Proof.Machine

/-- ID (10 R23). -/
def idWord : Word := 0x44500001#32

/-- CONFIG as read: `{LEFT_WRAP, DH, DW}`, zero-extended (10 R31, 40 R106). -/
def State.configWord (s : State) : Word :=
  0#29 ++ BitVec.ofBool s.leftWrap ++ BitVec.ofBool s.dh ++ BitVec.ofBool s.dw

/-- IRQ_EN as read: `{CMDERR_EN, ERR_EN, DONE_EN}`, zero-extended (10 R34, 40 R112). -/
def State.irqEnWord (s : State) : Word :=
  0#29 ++ BitVec.ofBool s.cmdErrEn ++ BitVec.ofBool s.errEn ++ BitVec.ofBool s.doneEn

/-- LEVELS as read: OUT_AVAIL in bits 31:16, IN_FREE in bits 15:0 (10 R35, 40 R114). -/
def State.levelsWord (s : State) : Word :=
  BitVec.ofNat 16 s.outq.length ++ BitVec.ofNat 16 (s.params.inDepth - s.inq.length)

/-- OUT_DATA as read when an entry is popped: `{LAST, VALID = 1, BYTE}`, zero-extended (30 R86). -/
def outDataWord (e : OutEntry) : Word :=
  0#22 ++ BitVec.ofBool e.last ++ 1#1 ++ e.byte

/-- Pixel `k` of an input word: lane `k`, an unsigned intensity (30 R85, 42 R167). -/
def pixelOfWord (w : Word) (k : Nat) : Int := ((lane w k).toNat : Int)

/-- DW as a CONFIG write takes it (40 R107). -/
def configDW (v : Word) : Bool := v.getLsbD 0
/-- DH as a CONFIG write takes it (40 R107). -/
def configDH (v : Word) : Bool := v.getLsbD 1
/-- LEFT_WRAP as a CONFIG write takes it (40 R107). -/
def configLeftWrap (v : Word) : Bool := v.getLsbD 2

/-- DONE_EN as an IRQ_EN write takes it (40 R113). -/
def irqEnDone (v : Word) : Bool := v.getLsbD 0
/-- ERR_EN as an IRQ_EN write takes it (40 R113). -/
def irqEnErr (v : Word) : Bool := v.getLsbD 1
/-- CMDERR_EN as an IRQ_EN write takes it (40 R113). -/
def irqEnCmdErr (v : Word) : Bool := v.getLsbD 2

end Sys2Proof.Machine
end

