-- ==== Sys2Proof/Machine/Ops.lean ====
section
/-! DEFINITION. The named operations over the row buffer and the registers, the error entry and the
ways a job ends. -/

namespace Sys2Proof.Machine

/-! ### ROWBUF as a sparse memory -/

/-- Addresses strictly rising: the canonical form. -/
def Memory.sortedFrom (lo : Nat) (m : Memory) : Bool :=
  match m with
  | [] => true
  | (a, _) :: rest => decide (lo ≤ a) && Memory.sortedFrom (a + 1) rest

/-- The canonical form of a memory. Every listed cell holds a value, so none is listed that reads as
an unlisted one. -/
def Memory.wf (m : Memory) : Bool := Memory.sortedFrom 0 m

/-- The value of the cell at an address; `none` is "no value" (10 R41). -/
def Memory.read (m : Memory) (a : Nat) : Option Cell :=
  match m with
  | [] => none
  | (b, c) :: rest => if b = a then some c else Memory.read rest a

/-- The memory with one cell written, in canonical form. -/
def Memory.write (m : Memory) (a : Nat) (c : Cell) : Memory :=
  match m with
  | [] => [(a, c)]
  | (b, d) :: rest =>
    if a < b then (a, c) :: (b, d) :: rest
    else if a = b then (a, c) :: rest
    else (b, d) :: Memory.write rest a c

/-- No cell holds a value. -/
def Memory.empty : Memory := []

/-- The address of ROWBUF's cell (slot, column). The stride 2^16 exceeds every legal W_MAX, so distinct
cells have distinct addresses (log 13; unobservable, 10 R39). -/
def cellAddr (slot col : Nat) : Nat := slot * 65536 + col

/-- The address of `cell(t, x)`: image row `t` lives in slot `t mod 3` (10 R40). -/
def rowCellAddr (t x : Nat) : Nat := cellAddr (t % 3) x

/-- A cell that holds integer `n`: 10-bit two's complement (10 R39). Outside that range the spec
states no value: FREE VALUE (log 15). -/
def cellOfInt (n : Int) : Cell :=
  if -512 ≤ n ∧ n ≤ 511 then BitVec.ofInt 10 n else Config.cellOfOverflow n

/-- Read `cell(t, x)` as a signed integer (00 R14). `wMax` is the number of columns. -/
def Memory.readCell (m : Memory) (wMax t x : Nat) : Except Fault Int :=
  if x < wMax then
    match m.read (rowCellAddr t x) with
    | some c => .ok c.toInt
    | none => .error .unwrittenCell
  else .error .noSuchCell

/-- Write `cell(t, x) <- n` (00 R14). -/
def Memory.writeCell (m : Memory) (wMax t x : Nat) (n : Int) : Except Fault Memory :=
  if x < wMax then .ok (m.write (rowCellAddr t x) (cellOfInt n))
  else .error .noSuchCell

/-! ### The host's view -/

/-- An access is complete: the host has its reply and sees the IRQ line (70 R281). -/
def State.observe (s : State) (sel : BitVec 7) (r : Reply) : State :=
  { s with trace := s.trace ++ [{ sel := sel, reply := r, irq := s.irq }] }

/-! ### FIFOs (00 R14) -/

/-- `in_push(w)`. -/
def State.inPush (s : State) (w : Word) : State := { s with inq := s.inq ++ [w] }

/-- `out_push(b, last)`. -/
def State.outPush (s : State) (b : Byte) (last : Bool) : State :=
  { s with outq := s.outq ++ [{ byte := b, last := last }] }

/-! ### Ends of a job -/

/-- The latches and `seq` become unspecified (10 R44, R45, 41 R147): free values (log 4). -/
def State.unspecifyJob (s : State) : State :=
  { s with
    jw := Config.unspecifiedJW s.freeCtr
    jh := Config.unspecifiedJH s.freeCtr
    jdw := Config.unspecifiedJDW s.freeCtr
    jdh := Config.unspecifiedJDH s.freeCtr
    jwrap := Config.unspecifiedJWRAP s.freeCtr
    seq := Config.unspecifiedSeq s.freeCtr
    freeCtr := s.freeCtr + 1 }

/-- A step that leaves RUN makes the latches and `seq` unspecified (10 R44); outside RUN they stay. -/
def State.leaveRun (s : State) : State :=
  if s.jobState = .run then s.unspecifyJob else s

/-- `raise Error(c)`, the error entry: the DPB's exception entry (60 R235, R244). -/
def State.raiseError (s : State) (c : ErrCode) : State :=
  { s.leaveRun with
    jobState := .error
    errCode := c
    inq := []
    outq := []
    inRemain := 0#32
    rowbuf := Memory.empty }

/-- The effect of CLEAR (41 R149), the return from ERROR and from DONE (60 R237, R244). -/
def State.clearErrors (s : State) : State :=
  if s.jobState = .done ∨ s.jobState = .error then
    { s with cmdErr := false, jobState := .idle, errCode := .none, produced := false }
  else { s with cmdErr := false }

/-- The effect of ABORT (41 R147), the other return from ERROR (60 R237). -/
def State.abortJob (s : State) : State :=
  { s.unspecifyJob with
    inq := []
    outq := []
    inRemain := 0#32
    produced := false
    errCode := .none
    rowbuf := Memory.empty
    jobState := .idle }

/-- A reserved or illegal command: CMD_ERR and nothing else (41 R151). -/
def State.setCmdErr (s : State) : State := { s with cmdErr := true }

/-- The reset event (70 R260): every piece of the spec's state at its reset value (10 R50), the
unspecified ones at free values (log 17). The parameters are the machine's own, and the list of events
and the host's record are no state of the block. -/
def State.resetBlock (s : State) : State :=
  { s.unspecifyJob with
    jobState := .idle
    cmdErr := false
    errCode := .none
    produced := false
    dw := false
    dh := false
    leftWrap := false
    width := 384#32
    height := 0#32
    doneEn := false
    errEn := false
    cmdErrEn := false
    inRemain := 0#32
    inq := []
    outq := []
    rowbuf := Memory.empty }

end Sys2Proof.Machine
end

