-- ==== Sys2Proof/Machine/Commands.lean ====
section
/-! DEFINITION. The commands (41_commands.md): their effects, and the meanings of the CMD rows. A CMD row
is the data word of a WR_CMD, so each meaning ends as that write does. -/

namespace Sys2Proof.Machine

/-- DIMCHECK(W, H) (41 R143). -/
def dimCheck (wMax w h : Nat) : ErrCode :=
  if w % 8 ≠ 0 then .dimNotMult8
  else if w / 8 > 65535 ∨ h > 65535 then .dimHdrRange
  else if w > wMax then .dimCapacity
  else .none

/-- An accepted START (41 R144). -/
def State.beginJob (s : State) : State :=
  { s with
    jw := s.width
    jh := s.height
    jdw := s.dw
    jdh := s.dh
    jwrap := s.leftWrap
    inRemain := BitVec.ofNat 32 (s.width.toNat * s.height.toNat / 4)
    produced := false
    rowbuf := Memory.empty
    seq := 0
    jobState := .run }

/-- START (41 R144). -/
def cmdStart (s : State) : State :=
  if s.jobState = .idle then
    match dimCheck s.params.wMax s.width.toNat s.height.toNat with
    | .none => s.beginJob
    | c => s.raiseError c
  else s.setCmdErr

/-- `execute_command(v)` (41 R141): the whole word is matched, and the command is the one format CMD
gives (30 R84). -/
def executeCommand (v : Word) (s : State) : State :=
  if v = 0#32 then s
  else if v = 1#32 then cmdStart s
  else if v = 2#32 then s.abortJob
  else if v = 3#32 then s.clearErrors
  else s.setCmdErr

/-- A command's write to CMD is complete (40 R103). -/
def commandDone (s : State) : Host.Outcome State Fault Refusal := .next (s.observe 0x44#7 .ack)

/-- NOP (41 R140). -/
def execNop (s : State) : Host.Outcome State Fault Refusal := commandDone s

/-- START (41 R144). -/
def execStart (s : State) : Host.Outcome State Fault Refusal := commandDone (cmdStart s)

/-- ABORT (41 R147). -/
def execAbort (s : State) : Host.Outcome State Fault Refusal := commandDone s.abortJob

/-- CLEAR (41 R149). -/
def execClear (s : State) : Host.Outcome State Fault Refusal := commandDone s.clearErrors

/-- A reserved command word (41 R151). The word is not looked at: it is none of the four. -/
def execCmdReserved (_v : Word) (s : State) : Host.Outcome State Fault Refusal :=
  commandDone s.setCmdErr

end Sys2Proof.Machine
end

