-- ==== Sys2Proof/Machine/HostAccess.lean ====
section
/-! DEFINITION. The host's register transactions (40_host_access.md), one meaning each. -/

namespace Sys2Proof.Machine

/-- A read is complete with its value. -/
def readDone (sel : BitVec 7) (v : Word) (s : State) : Host.Outcome State Fault Refusal :=
  .next (s.observe sel (.data v))

/-- A write is complete. -/
def writeDone (sel : BitVec 7) (s : State) : Host.Outcome State Fault Refusal :=
  .next (s.observe sel .ack)

/-- The selector of the reserved offset `0x30 + 4k` (30 R81). -/
def rsvdSel (we : Bool) (k : BitVec 2) : BitVec 7 := BitVec.ofBool we ++ 3#2 ++ k ++ 0#2

/-! ### ID, CMD, STATUS -/

/-- RD_ID (40 R100). -/
def execRdId (s : State) : Host.Outcome State Fault Refusal := readDone 0x00#7 idWord s

/-- WR_ID (40 R101). -/
def execWrId (_v : Word) (s : State) : Host.Outcome State Fault Refusal := writeDone 0x40#7 s

/-- RD_CMD (40 R102). -/
def execRdCmd (s : State) : Host.Outcome State Fault Refusal := readDone 0x04#7 0#32 s

/-- WR_CMD (40 R103): `execute_command(v)`. -/
def execWrCmd (v : Word) (s : State) : Host.Outcome State Fault Refusal :=
  writeDone 0x44#7 (executeCommand v s)

/-- RD_STATUS (40 R104). -/
def execRdStatus (s : State) : Host.Outcome State Fault Refusal := readDone 0x08#7 s.statusWord s

/-- WR_STATUS (40 R105). -/
def execWrStatus (_v : Word) (s : State) : Host.Outcome State Fault Refusal := writeDone 0x48#7 s

/-! ### CONFIG, WIDTH, HEIGHT, IRQ_EN -/

/-- RD_CONFIG (40 R106). -/
def execRdConfig (s : State) : Host.Outcome State Fault Refusal := readDone 0x0C#7 s.configWord s

/-- WR_CONFIG (40 R107). -/
def execWrConfig (v : Word) (s : State) : Host.Outcome State Fault Refusal :=
  writeDone 0x4C#7 { s with dw := configDW v, dh := configDH v, leftWrap := configLeftWrap v }

/-- RD_WIDTH (40 R108). -/
def execRdWidth (s : State) : Host.Outcome State Fault Refusal := readDone 0x10#7 s.width s

/-- WR_WIDTH (40 R109). -/
def execWrWidth (v : Word) (s : State) : Host.Outcome State Fault Refusal :=
  writeDone 0x50#7 { s with width := v }

/-- RD_HEIGHT (40 R110). -/
def execRdHeight (s : State) : Host.Outcome State Fault Refusal := readDone 0x14#7 s.height s

/-- WR_HEIGHT (40 R111). -/
def execWrHeight (v : Word) (s : State) : Host.Outcome State Fault Refusal :=
  writeDone 0x54#7 { s with height := v }

/-- RD_IRQ_EN (40 R112). -/
def execRdIrqEn (s : State) : Host.Outcome State Fault Refusal := readDone 0x18#7 s.irqEnWord s

/-- WR_IRQ_EN (40 R113). -/
def execWrIrqEn (v : Word) (s : State) : Host.Outcome State Fault Refusal :=
  writeDone 0x58#7 { s with doneEn := irqEnDone v, errEn := irqEnErr v, cmdErrEn := irqEnCmdErr v }

/-! ### LEVELS -/

/-- RD_LEVELS (40 R114). -/
def execRdLevels (s : State) : Host.Outcome State Fault Refusal := readDone 0x1C#7 s.levelsWord s

/-- WR_LEVELS (40 R115). -/
def execWrLevels (_v : Word) (s : State) : Host.Outcome State Fault Refusal := writeDone 0x5C#7 s

/-! ### IN_DATA and OUT_DATA -/

/-- RD_IN_DATA (40 R117). -/
def execRdInData (s : State) : Host.Outcome State Fault Refusal := readDone 0x20#7 0#32 s

/-- The effect of an IN_DATA write (40 R116). -/
def acceptInData (v : Word) (s : State) : State :=
  if s.jobState ≠ .run then s
  else if s.inRemain = 0#32 ∨ s.inq.length = s.params.inDepth then s.raiseError .inOverrun
  else { s.inPush v with inRemain := s.inRemain - 1#32 }

/-- WR_IN_DATA (40 R116). -/
def execWrInData (v : Word) (s : State) : Host.Outcome State Fault Refusal :=
  writeDone 0x60#7 (acceptInData v s)

/-- The pop of an entry by an OUT_DATA read: the LAST byte ends the job (40 R119). -/
def State.popOut (s : State) (e : OutEntry) (rest : List OutEntry) : State :=
  if e.last then { s.leaveRun with outq := rest, jobState := .done } else { s with outq := rest }

/-- RD_OUT_DATA (40 R119). -/
def execRdOutData (s : State) : Host.Outcome State Fault Refusal :=
  match s.outq with
  | [] => readDone 0x24#7 0#32 s
  | e :: rest => readDone 0x24#7 (outDataWord e) (s.popOut e rest)

/-- WR_OUT_DATA (40 R120). -/
def execWrOutData (_v : Word) (s : State) : Host.Outcome State Fault Refusal := writeDone 0x64#7 s

/-! ### IN_REMAIN and the reserved offsets -/

/-- RD_IN_REMAIN (40 R121). -/
def execRdInRemain (s : State) : Host.Outcome State Fault Refusal := readDone 0x28#7 s.inRemain s

/-- WR_IN_REMAIN (40 R122). -/
def execWrInRemain (_v : Word) (s : State) : Host.Outcome State Fault Refusal := writeDone 0x68#7 s

/-- RD_RSVD at 0x2C (40 R123). -/
def execRdRsvd2C (s : State) : Host.Outcome State Fault Refusal := readDone 0x2C#7 0#32 s

/-- RD_RSVD at 0x30-0x3C (40 R123). -/
def execRdRsvdHi (k : BitVec 2) (s : State) : Host.Outcome State Fault Refusal :=
  readDone (rsvdSel false k) 0#32 s

/-- WR_RSVD at 0x2C (40 R124). -/
def execWrRsvd2C (_v : Word) (s : State) : Host.Outcome State Fault Refusal := writeDone 0x6C#7 s

/-- WR_RSVD at 0x30-0x3C (40 R124). -/
def execWrRsvdHi (k : BitVec 2) (_v : Word) (s : State) : Host.Outcome State Fault Refusal :=
  writeDone (rsvdSel true k) s

/-! ### Misaligned accesses -/

/-- MISALIGNED with `off[0] = 1` (20 R63): refused. -/
def execMisalignedOdd (_we : Bool) (_idx : BitVec 4) (_al1 : Bool) (_v : Word) (_s : State) :
    Host.Outcome State Fault Refusal :=
  .refused .misaligned

/-- MISALIGNED with `off[1:0] = 10` (20 R63): refused. -/
def execMisalignedTwo (_we : Bool) (_idx : BitVec 4) (_v : Word) (_s : State) :
    Host.Outcome State Fault Refusal :=
  .refused .misaligned

end Sys2Proof.Machine
end

