-- ==== Sys2Proof/Machine/Dispatch.lean ====
section
/-! DEFINITION. Every instruction's meaning, one arm a constructor. -/

namespace Sys2Proof.Machine

def exec (i : Instr) (s : State) : Host.Outcome State Fault Refusal :=
  match i with
  | .rdId => Sys2Proof.Machine.execRdId s
  | .wrId v => Sys2Proof.Machine.execWrId v s
  | .rdCmd => Sys2Proof.Machine.execRdCmd s
  | .wrCmd v => Sys2Proof.Machine.execWrCmd v s
  | .rdStatus => Sys2Proof.Machine.execRdStatus s
  | .wrStatus v => Sys2Proof.Machine.execWrStatus v s
  | .rdConfig => Sys2Proof.Machine.execRdConfig s
  | .wrConfig v => Sys2Proof.Machine.execWrConfig v s
  | .rdWidth => Sys2Proof.Machine.execRdWidth s
  | .wrWidth v => Sys2Proof.Machine.execWrWidth v s
  | .rdHeight => Sys2Proof.Machine.execRdHeight s
  | .wrHeight v => Sys2Proof.Machine.execWrHeight v s
  | .rdIrqEn => Sys2Proof.Machine.execRdIrqEn s
  | .wrIrqEn v => Sys2Proof.Machine.execWrIrqEn v s
  | .rdLevels => Sys2Proof.Machine.execRdLevels s
  | .wrLevels v => Sys2Proof.Machine.execWrLevels v s
  | .rdInData => Sys2Proof.Machine.execRdInData s
  | .wrInData v => Sys2Proof.Machine.execWrInData v s
  | .rdOutData => Sys2Proof.Machine.execRdOutData s
  | .wrOutData v => Sys2Proof.Machine.execWrOutData v s
  | .rdInRemain => Sys2Proof.Machine.execRdInRemain s
  | .wrInRemain v => Sys2Proof.Machine.execWrInRemain v s
  | .rdRsvd2C => Sys2Proof.Machine.execRdRsvd2C s
  | .rdRsvdHi k => Sys2Proof.Machine.execRdRsvdHi k s
  | .wrRsvd2C v => Sys2Proof.Machine.execWrRsvd2C v s
  | .wrRsvdHi k v => Sys2Proof.Machine.execWrRsvdHi k v s
  | .misalignedOdd we idx al1 v => Sys2Proof.Machine.execMisalignedOdd we idx al1 v s
  | .misalignedTwo we idx v => Sys2Proof.Machine.execMisalignedTwo we idx v s
  | .nop => Sys2Proof.Machine.execNop s
  | .start => Sys2Proof.Machine.execStart s
  | .abort => Sys2Proof.Machine.execAbort s
  | .clear => Sys2Proof.Machine.execClear s
  | .cmdReserved v => Sys2Proof.Machine.execCmdReserved v s

end Sys2Proof.Machine
end

