-- ==== Sys2Proof/Machine/Fetch.lean ====
section
/-! DEFINITION. How a host request becomes the bytes the decoder reads. -/

namespace Sys2Proof.Machine

/-- The offset of a bus address in the window, where the access reaches the DPB at all (20 R61). -/
def windowOffset (base addr : Nat) : Option Nat :=
  if base ≤ addr ∧ addr < base + 64 then some (addr - base) else none

/-- The selector byte of an access: `{0, WE, off[5:0]}` (30 R81). -/
def accessSelector (write : Bool) (off : Nat) : Byte :=
  BitVec.ofNat 8 ((if write then 64 else 0) + off)

/-- What a host request brings to the DPB. -/
inductive Fetched where
  /-- The access is outside the window: it does not reach the DPB (20 R61, log 11). -/
  | elsewhere
  /-- The access is not of 32 bits (20 R62). -/
  | wrongSize
  /-- The frame of a 32-bit access, or of a command word. -/
  | frame (bytes : List Byte)
  deriving DecidableEq, Repr

/-- The frame of a request. -/
def fetchRequest (p : Params) (r : HostRequest) : Fetched :=
  match r with
  | .command v => .frame (commandFrame v)
  | .access a =>
    match windowOffset p.base a.addr with
    | none => .elsewhere
    | some off =>
      if a.size = 4 then .frame (busFrame a.write (accessSelector a.write off) a.data)
      else .wrongSize

/-- The request that the opcode table's word `w` of `nbits` bits stands for. -/
def tableRequest (p : Params) (nbits w : Nat) : HostRequest :=
  if nbits = 32 then .command (BitVec.ofNat 32 w)
  else .access
    { write := w.testBit 6, addr := p.base + w % 64, size := 4, data := BitVec.ofNat 32 (w / 256) }

end Sys2Proof.Machine
end

