-- ==== Sys2Proof/Machine/Ditherer.lean ====
section
/-! DEFINITION. The error-diffusion ditherer: kernel, threshold, diffusion and the effect of one VISIT on
the row buffer (43_ditherer.md). -/

namespace Sys2Proof.Machine

/-- One entry of the diffusion kernel: offsets and the numerator of the weight over 48 (43 R181). -/
structure KernelEntry where
  dx : Int
  dy : Nat
  w : Int
  deriving DecidableEq, Repr

/-- The Jarvis-Judice-Ninke kernel, in the order of the table of 43 R181. -/
def kernel : List KernelEntry :=
  [⟨1, 0, 7⟩, ⟨2, 0, 5⟩,
   ⟨-2, 1, 3⟩, ⟨-1, 1, 5⟩, ⟨0, 1, 7⟩, ⟨1, 1, 5⟩, ⟨2, 1, 3⟩,
   ⟨-2, 2, 1⟩, ⟨-1, 2, 3⟩, ⟨0, 2, 5⟩, ⟨1, 2, 3⟩, ⟨2, 2, 1⟩]

/-- The threshold THR (43 R183). -/
def thr (v : Int) : Int := if v > 128 then 255 else 0

/-- DIFF: the share is added and the SUM is truncated toward zero (43 R186). -/
def diff (s e w : Int) : Int := (48 * s + w * e).tdiv 48

/-- TARGET (43 R187): column and row an entry writes to, or `none` where the share is discarded. -/
def target (x y jw : Nat) (wrap : Bool) (k : KernelEntry) : Option (Nat × Nat) :=
  if (x : Int) + k.dx < 0 then
    if wrap then some (((x : Int) + k.dx + jw).toNat, y + k.dy) else none
  else some (((x : Int) + k.dx).toNat, y + k.dy)

/-- The update of one kernel entry: `cell(ty, tx) <- DIFF(cell(ty, tx), e, w)` where the entry is kept. -/
def diffuseEntry (wMax jw : Nat) (wrap : Bool) (y x : Nat) (e : Int) (k : KernelEntry) (m : Memory) :
    Except Fault Memory :=
  match target x y jw wrap k with
  | none => .ok m
  | some (tx, ty) =>
    match m.readCell wMax ty tx with
    | .error f => .error f
    | .ok old => m.writeCell wMax ty tx (diff old e k.w)

/-- The updates of a list of kernel entries, in order. -/
def diffuse (wMax jw : Nat) (wrap : Bool) (y x : Nat) (e : Int) (ks : List KernelEntry) (m : Memory) :
    Except Fault Memory :=
  match ks with
  | [] => .ok m
  | k :: rest =>
    match diffuseEntry wMax jw wrap y x e k m with
    | .error f => .error f
    | .ok m' => diffuse wMax jw wrap y x e rest m'

/-- What VISIT(y, x) does to ROWBUF (43 R185). -/
def visitCells (wMax jw : Nat) (wrap : Bool) (y x : Nat) (m : Memory) : Except Fault Memory :=
  match m.readCell wMax y x with
  | .error f => .error f
  | .ok v =>
    match m.writeCell wMax y x (thr v) with
    | .error f => .error f
    | .ok m' => diffuse wMax jw wrap y x (v - thr v) kernel m'

end Sys2Proof.Machine
end

