-- ==== Sys2Proof/Machine/Packer.lean ====
section
/-! DEFINITION. The header, the snap, the inversion and the packing of eight cells into a byte
(44_packer.md). -/

namespace Sys2Proof.Machine

/-- MODE (44 R211): bit 0 double width, bit 1 double height, bits 7:2 zero. -/
def modeByte (jdw jdh : Bool) : Byte := 0#6 ++ BitVec.ofBool jdh ++ BitVec.ofBool jdw

/-- HEADER(JW, JH, JDW, JDH) (44 R210). -/
def header (jw jh : Nat) (jdw jdh : Bool) : List Byte :=
  [0x1D#8, 0x76#8, 0x30#8, modeByte jdw jdh,
   BitVec.ofNat 8 (jw / 8 % 256), BitVec.ofNat 8 (jw / 8 / 256),
   BitVec.ofNat 8 (jh % 256), BitVec.ofNat 8 (jh / 256)]

/-- Byte `k` of the header. -/
def headerByte (jw jh : Nat) (jdw jdh : Bool) (k : Fin 8) : Byte :=
  (header jw jh jdw jdh)[k.val]'(by simp [header])

/-- SNAP (44 R214). -/
def snap (v : Int) : Int := if v > 128 then 255 else 0

/-- BIT (44 R215): set where the snapped value is black. -/
def bit (v : Int) : Bool := decide (snap v = 0)

/-- Pixel `i` of a byte goes to bit `7 - i`: most-significant-bit-first (44 R216). -/
def bitAt (b : Bool) (i : Nat) : Byte := if b then 1#8 <<< (7 - i) else 0#8

/-- The loop of PACK (44 R218) over the given pixel positions of byte `b` of row `y`. -/
def packCells (wMax : Nat) (m : Memory) (y b : Nat) (is : List Nat) (acc : Byte) : Except Fault Byte :=
  match is with
  | [] => .ok acc
  | i :: rest =>
    match m.readCell wMax y (8 * b + i) with
    | .error f => .error f
    | .ok v => packCells wMax m y b rest (acc ||| bitAt (bit v) i)

/-- BYTE(y, b) (44 R216), read from ROWBUF. -/
def packByte (wMax : Nat) (m : Memory) (y b : Nat) : Except Fault Byte :=
  packCells wMax m y b [0, 1, 2, 3, 4, 5, 6, 7] 0#8

end Sys2Proof.Machine
end

