-- ==== Sys2Proof/Machine/Sequencer.lean ====
section
/-! DEFINITION. The engine: micro-ops, the job program and one engine step (42_sequencer.md). -/

namespace Sys2Proof.Machine

/-- The micro-op kinds (42 R161). They have no encoding (30 R91). -/
inductive MicroOp where
  | hdr (k : Fin 8)
  | load (t i : Nat)
  | visit (y x : Nat)
  | pack (y b : Nat)
  deriving DecidableEq, Repr

/-- The LOADs of row `t`. -/
def loadRow (jw t : Nat) : List MicroOp := (List.range (jw / 4)).map (MicroOp.load t)

/-- The VISITs of row `y`: columns `0 .. JW-3`. -/
def visitRow (jw y : Nat) : List MicroOp := (List.range (jw - 2)).map (MicroOp.visit y)

/-- The PACKs of row `y`. -/
def packRow (jw y : Nat) : List MicroOp := (List.range (jw / 8)).map (MicroOp.pack y)

/-- ROWSTEP(y) (42 R162). -/
def rowStep (jw jh y : Nat) : List MicroOp :=
  (if y + 3 ≤ jh then visitRow jw y else []) ++ packRow jw y ++
    (if y + 4 ≤ jh then loadRow jw (y + 3) else [])

/-- The HDR micro-ops. -/
def hdrOps : List MicroOp := [.hdr 0, .hdr 1, .hdr 2, .hdr 3, .hdr 4, .hdr 5, .hdr 6, .hdr 7]

/-- JOBPROG(JW, JH) (42 R162). -/
def jobProg (jw jh : Nat) : List MicroOp :=
  hdrOps ++ (List.range (min 3 jh)).flatMap (loadRow jw) ++ (List.range jh).flatMap (rowStep jw jh)

/-- The latched job's program. -/
def State.prog (s : State) : List MicroOp := jobProg s.jw.toNat s.jh.toNat

/-- IS_LAST(seq) (42 R169). -/
def State.isLast (s : State) : Bool := decide (s.seq = s.prog.length - 1)

/-- The micro-op at `seq`, while STATE = RUN (42 R160). -/
def State.currentOp (s : State) : Option MicroOp :=
  if s.jobState = .run then s.prog[s.seq]? else none

/-- The guard of a micro-op (42 R163). -/
def guard (op : MicroOp) (s : State) : Bool :=
  match op with
  | .hdr _ => decide (s.outq.length < s.params.outDepth)
  | .pack _ _ => decide (s.outq.length < s.params.outDepth)
  | .load _ _ => !s.inq.isEmpty
  | .visit _ _ => true

/-- An engine step is enabled (42 R163). -/
def State.engineEnabled (s : State) : Bool :=
  match s.currentOp with
  | some op => guard op s
  | none => false

/-- `seq <- seq + 1`. -/
def State.advance (s : State) : State := { s with seq := s.seq + 1 }

/-- The push that HDR and PACK share: the LAST tag and PRODUCED (42 R165, R170, 44 R218). -/
def State.produce (s : State) (b : Byte) : State :=
  { s.outPush b s.isLast with produced := s.produced || s.isLast }

/-- HDR(k) (42 R165). -/
def microHdr (k : Fin 8) (s : State) : Except Fault State :=
  .ok (s.produce (headerByte s.jw.toNat s.jh.toNat s.jdw s.jdh k)).advance

/-- The four cell writes of LOAD(t, i) (42 R166), over the given lanes. -/
def loadCells (wMax t i : Nat) (w : Word) (ks : List Nat) (m : Memory) : Except Fault Memory :=
  match ks with
  | [] => .ok m
  | k :: rest =>
    match m.writeCell wMax t (4 * i + k) (pixelOfWord w k) with
    | .error f => .error f
    | .ok m' => loadCells wMax t i w rest m'

/-- LOAD(t, i) (42 R166). With INQ empty its guard is false, and it changes nothing. -/
def microLoad (t i : Nat) (s : State) : Except Fault State :=
  match s.inq with
  | [] => .ok s
  | w :: rest =>
    match loadCells s.params.wMax t i w [0, 1, 2, 3] s.rowbuf with
    | .error f => .error f
    | .ok m => .ok ({ s with inq := rest, rowbuf := m } : State).advance

/-- VISIT(y, x) (43 R185). -/
def microVisit (y x : Nat) (s : State) : Except Fault State :=
  match visitCells s.params.wMax s.jw.toNat s.jwrap y x s.rowbuf with
  | .error f => .error f
  | .ok m => .ok ({ s with rowbuf := m } : State).advance

/-- PACK(y, b) (44 R218). -/
def microPack (y b : Nat) (s : State) : Except Fault State :=
  match packByte s.params.wMax s.rowbuf y b with
  | .error f => .error f
  | .ok byte => .ok (s.produce byte).advance

/-- One micro-op. -/
def microOp (op : MicroOp) (s : State) : Except Fault State :=
  match op with
  | .hdr k => microHdr k s
  | .load t i => microLoad t i s
  | .visit y x => microVisit y x s
  | .pack y b => microPack y b s

/-- The engine's turn: its micro-op where one is enabled (70 R280b); else it takes no step and every
piece of state keeps its value (60 R250; log 16). -/
def engineTurn (s : State) : Host.Outcome State Fault Refusal :=
  match s.currentOp with
  | none => .next s
  | some op =>
    if guard op s then
      match microOp op s with
      | .ok t => .next t
      | .error f => .fault f
    else .next s

end Sys2Proof.Machine
end

