-- ==== Sys2Proof/Machine/Step.lean ====
section
/-! DEFINITION. One step of the DPB: the untimed transition system of 70 R280, made deterministic by the
list of events in State (log 6). -/

namespace Sys2Proof.Machine

/-- A host step (70 R280a): the request's frame is decoded and its instruction run. -/
def hostStep (r : HostRequest) (s : State) : Host.Outcome State Fault Refusal :=
  match fetchRequest s.params r with
  | .elsewhere => .next s
  | .wrongSize => .refused .accessSize
  | .frame bytes =>
    match decode bytes with
    | .ok i => exec i s
    | .error e => .refused (.badFrame e)

/-- One step. The oldest event says who takes it; with none listed the engine has the turn. -/
def step (s : State) : Host.Outcome State Fault Refusal :=
  match s.events with
  | [] => engineTurn s
  | e :: rest =>
    match e with
    | .host r => hostStep r { s with events := rest }
    | .engine => engineTurn { s with events := rest }
    | .reset => .next (State.resetBlock { s with events := rest })

/-- The state with the opcode table's word `w` as the host's next request, so that the next step fetches
and runs it (log 8). -/
def State.withFetchWord (s : State) (nbits w : Nat) : State :=
  { s with events := .host (tableRequest s.params nbits w) :: s.events }

end Sys2Proof.Machine
end

