-- ==== Sys2Proof/Machine/Reference.lean ====
section
/-! DEFINITION. The dense references that the spec gives for a whole job: DITHER (43 R190), PACKALL
(44 R217) and STREAM (42 R172). The machine does not use them; claims compare the machine with them. -/

namespace Sys2Proof.Machine

/-- A dense image: `H` rows of `W` pixels. -/
abbrev Image := List (List Int)

/-- `P[y][x]`. -/
def Image.get (p : Image) (y x : Nat) : Int := (p.getD y []).getD x 0

/-- `P[y][x] <- n`. -/
def Image.set (p : Image) (y x : Nat) (n : Int) : Image := List.set p y ((p.getD y []).set x n)

/-- The image of the given size with pixel `f y x` at column `x` of row `y`. -/
def Image.ofPixels (w h : Nat) (f : Nat → Nat → Int) : Image :=
  (List.range h).map fun y => (List.range w).map (f y)

/-- `P` is a `W×H` image. -/
def Image.hasSize (p : Image) (w h : Nat) : Prop := p.length = h ∧ ∀ row ∈ p, row.length = w

/-- The update of one kernel entry on the dense array (43 R190). -/
def ditherEntry (w : Nat) (wrap : Bool) (y x : Nat) (e : Int) (p : Image) (k : KernelEntry) : Image :=
  match target x y w wrap k with
  | none => p
  | some (tx, ty) => Image.set p ty tx (diff (Image.get p ty tx) e k.w)

/-- One visit of the dense array (43 R190). -/
def ditherVisit (w : Nat) (wrap : Bool) (p : Image) (y x : Nat) : Image :=
  kernel.foldl (ditherEntry w wrap y x (Image.get p y x - thr (Image.get p y x)))
    (Image.set p y x (thr (Image.get p y x)))

/-- The scan order of the visits, as pairs (row, column): rows `0 .. H-3`, columns `0 .. W-3` (43 R190). -/
def visitOrder (w h : Nat) : List (Nat × Nat) :=
  (List.range (h - 2)).flatMap fun y => (List.range (w - 2)).map fun x => (y, x)

/-- DITHER(I, W, H, wrap) (43 R190). -/
def dither (i : Image) (w h : Nat) (wrap : Bool) : Image :=
  (visitOrder w h).foldl (fun p yx => ditherVisit w wrap p yx.1 yx.2) i

/-- BYTE_P(y, b) (44 R217). -/
def denseByte (p : Image) (y b : Nat) : Byte :=
  [0, 1, 2, 3, 4, 5, 6, 7].foldl (fun acc i => acc ||| bitAt (bit (Image.get p y (8 * b + i))) i) 0#8

/-- PACKALL(P, W, H) (44 R217). -/
def packAll (p : Image) (w h : Nat) : List Byte :=
  (List.range h).flatMap fun y => (List.range (w / 8)).map fun b => denseByte p y b

/-- STREAM(I) (42 R172). -/
def stream (i : Image) (w h : Nat) (dw dh wrap : Bool) : List Byte :=
  header w h dw dh ++ packAll (dither i w h wrap) w h

/-- The image that a job's words carry, word `n` giving pixels `4n .. 4n+3` of the flattened image
(30 R85, 40 R118). -/
def imageOfWords (words : List Word) (w h : Nat) : Image :=
  Image.ofPixels w h fun y x => pixelOfWord (words.getD ((y * w + x) / 4) 0#32) ((y * w + x) % 4)

end Sys2Proof.Machine
end

