-- ==== Sys2Proof/Safety.lean ====
section
/-! DEFINITION. What a run is and what a good state is, in the terms claims use. -/

namespace Sys2Proof.Machine

/-! ### Which instructions are which command -/

/-- START, as a CMD row or as the WR_CMD that carries it (40 R103). -/
def isStart (i : Instr) : Prop := i = .start ∨ i = .wrCmd 1#32

/-- ABORT, likewise. -/
def isAbort (i : Instr) : Prop := i = .abort ∨ i = .wrCmd 2#32

/-- CLEAR, likewise. -/
def isClear (i : Instr) : Prop := i = .clear ∨ i = .wrCmd 3#32

/-- A reserved command word, as a CMD row or as the WR_CMD that carries it (41 R151). -/
def isReservedCommand (i : Instr) : Prop :=
  ∃ v, isCommandWord v = false ∧ (i = .cmdReserved v ∨ i = .wrCmd v)

/-- The next step of `s` is a host step that runs instruction `i`. -/
def State.runsNext (s : State) (i : Instr) : Prop :=
  ∃ r rest bytes, s.events = .host r :: rest ∧ fetchRequest s.params r = .frame bytes ∧
    decode bytes = .ok i

/-- The next step of `s` is the reset event. -/
def State.resetsNext (s : State) : Prop := ∃ rest, s.events = .reset :: rest

/-! ### The invariant (10 R49, with what makes it inductive) -/

/-- A micro-op is a LOAD. -/
def MicroOp.isLoad (op : MicroOp) : Bool :=
  match op with
  | .load _ _ => true
  | .hdr _ => false
  | .visit _ _ => false
  | .pack _ _ => false

/-- Row and word of a LOAD. -/
def MicroOp.loadOf (op : MicroOp) : Option (Nat × Nat) :=
  match op with
  | .load t i => some (t, i)
  | .hdr _ => none
  | .visit _ _ => none
  | .pack _ _ => none

/-- Row and column of a VISIT. -/
def MicroOp.visitOf (op : MicroOp) : Option (Nat × Nat) :=
  match op with
  | .visit y x => some (y, x)
  | .hdr _ => none
  | .load _ _ => none
  | .pack _ _ => none

/-- Row and byte of a PACK. -/
def MicroOp.packOf (op : MicroOp) : Option (Nat × Nat) :=
  match op with
  | .pack y b => some (y, b)
  | .hdr _ => none
  | .load _ _ => none
  | .visit _ _ => none

/-- `L` of 10 R49(c): the number of LOADs done since START. -/
def State.loadsDone (s : State) : Nat := ((s.prog.take s.seq).filter MicroOp.isLoad).length

/-- What holds of a job while STATE = RUN. -/
structure State.RunInv (s : State) : Prop where
  /-- START admits only multiples of 8 (41 R143). -/
  widthMul8 : s.jw.toNat % 8 = 0
  /-- START admits only widths the row buffer holds (41 R143). -/
  widthFits : s.jw.toNat ≤ s.params.wMax
  /-- START admits only heights the header encodes (41 R143). -/
  heightFits : s.jh.toNat ≤ 65535
  seqBound : s.seq ≤ s.prog.length
  /-- 10 R49(c). -/
  wordCount : s.inRemain.toNat + s.loadsDone + s.inq.length = s.jw.toNat * s.jh.toNat / 4
  /-- 42 R170. -/
  producedAtEnd : s.produced = true ↔ s.seq = s.prog.length
  /-- Only the final entry is tagged LAST, and only at the end of the program (42 R169). -/
  tags : ∀ pre e post, s.outq = pre ++ e :: post →
    (e.last = true ↔ post = [] ∧ s.seq = s.prog.length)
  /-- STATE stays RUN until the host pops the LAST byte (42 R170). -/
  outAtEnd : s.seq = s.prog.length → s.outq ≠ []
  /-- Every cell a LOAD of this job has written holds a value (10 R41). -/
  loaded : ∀ t i, MicroOp.load t i ∈ s.prog.take s.seq →
    ∀ k, k < 4 → (s.rowbuf.read (rowCellAddr t (4 * i + k))).isSome = true

/-- The invariant of the machine. -/
structure State.Inv (s : State) : Prop where
  paramsLegal : s.params.legal
  memWf : s.rowbuf.wf = true
  /-- Only cells of ROWBUF hold values (10 R39). -/
  cellsExist : ∀ a c, s.rowbuf.read a = some c →
    ∃ slot col, slot < 3 ∧ col < s.params.wMax ∧ a = cellAddr slot col
  /-- 10 R42. -/
  inqBound : s.inq.length ≤ s.params.inDepth
  /-- 10 R43. -/
  outqBound : s.outq.length ≤ s.params.outDepth
  /-- 10 R49(a). -/
  inqIdle : s.jobState ≠ .run → s.inq = []
  /-- 10 R49(b). -/
  outqIdle : s.jobState ≠ .run → s.outq = []
  /-- 40 R121: IN_REMAIN is 0 outside RUN. -/
  remainIdle : s.jobState ≠ .run → s.inRemain = 0#32
  /-- 10 R49(d). -/
  errCodeIff : s.jobState ≠ .error ↔ s.errCode = .none
  /-- 10 R49(e). -/
  doneProduced : s.jobState = .done → s.produced = true
  /-- 10 R30. -/
  idleNotProduced : s.jobState = .idle → s.produced = false
  runInv : s.jobState = .run → s.RunInv

/-! ### Runs -/

/-- A machine of the given parameters right after reset, before the given events. -/
def State.boot (p : Params) (evs : List Event) : State := { State.reset with params := p, events := evs }

/-- A state that some machine of legal parameters reaches from reset, whatever its events. -/
def Reachable (s : State) : Prop :=
  ∃ p evs n, p.legal ∧ Sys2Proof.core.run n (State.boot p evs) = .next s

/-- A job of legal dimensions right after its START, nothing consumed and nothing produced (41 R144). -/
structure State.JobStart (s : State) : Prop where
  paramsLegal : s.params.legal
  running : s.jobState = .run
  widthMul8 : s.jw.toNat % 8 = 0
  widthFits : s.jw.toNat ≤ s.params.wMax
  heightFits : s.jh.toNat ≤ 65535
  atStart : s.seq = 0
  notProduced : s.produced = false
  noCells : s.rowbuf = []
  noInput : s.inq = []
  noOutput : s.outq = []
  allRemain : s.inRemain.toNat = s.jw.toNat * s.jh.toNat / 4

/-- The stream byte that an observation delivers: a valid OUT_DATA read (30 R86). -/
def Obs.streamByte (o : Obs) : Option Byte :=
  match o.reply with
  | .ack => none
  | .data v => if o.sel = 0x24#7 ∧ v.getLsbD 8 = true then some (v.extractLsb' 0 8) else none

/-- The stream bytes that a record delivers, in order. -/
def delivered (tr : List Obs) : List Byte := tr.filterMap Obs.streamByte

/-- The events of a host that lets a job run: the engine's turn, and any aligned 32-bit access in the window
but a write to CMD. -/
def isStreaming (p : Params) (e : Event) : Prop :=
  e = .engine ∨
  ∃ we off d, off < 64 ∧ off % 4 = 0 ∧ (we = true → off ≠ 4) ∧
    e = .host (.access { write := we, addr := p.base + off, size := 4, data := d })

/-- The word an event offers to IN_DATA. -/
def Event.inWord (p : Params) (e : Event) : Option Word :=
  match e with
  | .host (.access a) => if a.write = true ∧ a.addr = p.base + 0x20 then some a.data else none
  | .host (.command _) => none
  | .engine => none
  | .reset => none

end Sys2Proof.Machine
end

