-- ==== Sys2Proof/Certificates/Slice0/Obligations.lean ====
section
/-! DEFINITION. The statements for the provers. A docstring names the rule a statement formalises; "log n"
is `notes/assumptions/n.md`. -/

open Sys2Proof Sys2Proof.Machine

/-! ### Encoding -/

/-- 30 R81, R84: a word of each kind, written out from the tables, decodes to its row. -/
def Obligations.TableWordsDecodeToTheirRows : Prop :=
  decodeTableWord 8 0x00 = some .rdId ∧
  decodeTableWord 8 0x08 = some .rdStatus ∧
  decodeTableWord 8 0x24 = some .rdOutData ∧
  decodeTableWord 8 0x3C = some (.rdRsvdHi 3#2) ∧
  decodeTableWord 8 0x44 = some (.wrCmd 0#32) ∧
  decodeTableWord 8 0x70 = some (.wrRsvdHi 0#2 0#32) ∧
  decodeTableWord 8 0x09 = some (.misalignedOdd false 2#4 false 0#32) ∧
  decodeTableWord 8 0x4E = some (.misalignedTwo true 3#4 0#32) ∧
  decodeTableWord 32 0x00000001 = some .start ∧
  decodeTableWord 32 0x00000101 = some (.cmdReserved 0x101#32) ∧
  decode [0x60#8, 0x00#8, 0x7F#8, 0x80#8, 0x81#8] = .ok (.wrInData 0x81807F00#32)

/-- Every well-formed instruction is what its own frame decodes to: no operand bit is dropped. -/
def Obligations.DecodeOfEncodeIsTheInstruction : Prop :=
  ∀ i : Instr, i.wf = true → decode (encode i) = .ok i

/-- A frame has one meaning: what it decodes to is well-formed and is encoded by that very frame. -/
def Obligations.DecodedFramesAreCanonical : Prop :=
  ∀ (bytes : List Byte) (i : Instr), decode bytes = .ok i → i.wf = true ∧ encode i = bytes

/-! ### A step -/

/-- 70 R280, log 6: the oldest event takes the step. A host request whose frame decodes to `i` runs `exec i`,
with the request taken off the list; an engine event gives the engine its turn; a reset event resets; and
with no event listed the engine has the turn (the last is the model's choice, log 6). -/
def Obligations.StepRunsTheDecodedInstruction : Prop :=
  (∀ (s : State) (r : HostRequest) (rest : List Event) (bytes : List Byte) (i : Instr),
    s.events = .host r :: rest → fetchRequest s.params r = .frame bytes → decode bytes = .ok i →
    step s = exec i { s with events := rest }) ∧
  ∀ (s : State) (rest : List Event),
    (s.events = [] → step s = engineTurn s) ∧
    (s.events = .engine :: rest → step s = engineTurn { s with events := rest }) ∧
    (s.events = .reset :: rest → step s = .next (State.resetBlock { s with events := rest }))

/-- 40 R125: an aligned 32-bit access in the window completes as one step in every state; the host has
exactly one more observation, made under the selector `{WE, off}`. -/
def Obligations.AlignedWordAccessesCompleteInOneStep : Prop :=
  ∀ (s : State) (a : Access) (rest : List Event),
    s.events = .host (.access a) :: rest → a.size = 4 →
    s.params.base ≤ a.addr → a.addr < s.params.base + 64 → (a.addr - s.params.base) % 4 = 0 →
    ∃ t o, step s = .next t ∧ t.events = rest ∧ t.trace = s.trace ++ [o] ∧
      o.sel.toNat = (if a.write then 64 else 0) + (a.addr - s.params.base)

/-- 20 R62, R63: a misaligned 32-bit access is refused, as an instruction and as a step, and so is an access of
any other size. -/
def Obligations.MisalignedAndOddSizedAccessesAreRefused : Prop :=
  (∀ we idx al1 v (s : State), exec (.misalignedOdd we idx al1 v) s = .refused .misaligned) ∧
  (∀ we idx v (s : State), exec (.misalignedTwo we idx v) s = .refused .misaligned) ∧
  ∀ (s : State) (a : Access) (rest : List Event),
    s.events = .host (.access a) :: rest → s.params.base ≤ a.addr → a.addr < s.params.base + 64 →
    (a.size = 4 → (a.addr - s.params.base) % 4 ≠ 0 → step s = .refused .misaligned) ∧
    (a.size ≠ 4 → step s = .refused .accessSize)

/-- 20 R61, with log 11 (the model's reading): an access outside the window leaves the block as it is. -/
def Obligations.AccessesOutsideTheWindowLeaveTheBlockAlone : Prop :=
  ∀ (s : State) (a : Access) (rest : List Event),
    s.events = .host (.access a) :: rest → ¬ (s.params.base ≤ a.addr ∧ a.addr < s.params.base + 64) →
    step s = .next { s with events := rest }

/-- 30 R93: the request `CMD v` is the write of `v` to the register CMD. -/
def Obligations.CommandRequestIsTheWriteToCmd : Prop :=
  ∀ (s : State) (v : Word) (rest : List Event),
    step { s with events := .host (.command v) :: rest } =
      step { s with events := .host (.access ⟨true, s.params.base + 4, 4, v⟩) :: rest }

/-! ### Register reads: completion, value and frame in one. `observe` appends the reply and the IRQ line to the
host's record and changes nothing else. -/

/-- 40 R100, R102, R117, R123: selector and value of the reads that return a constant, in every state. -/
def Obligations.ConstantReadsAnswerTheirConstants : Prop :=
  ∀ s : State,
    (decode [0x00#8] = .ok .rdId ∧ exec .rdId s = .next (s.observe 0x00#7 (.data 0x44500001#32))) ∧
    (decode [0x04#8] = .ok .rdCmd ∧ exec .rdCmd s = .next (s.observe 0x04#7 (.data 0#32))) ∧
    (decode [0x20#8] = .ok .rdInData ∧ exec .rdInData s = .next (s.observe 0x20#7 (.data 0#32))) ∧
    (decode [0x2C#8] = .ok .rdRsvd2C ∧ exec .rdRsvd2C s = .next (s.observe 0x2C#7 (.data 0#32))) ∧
    ∀ k : BitVec 2, decode [BitVec.ofNat 8 (0x30 + 4 * k.toNat)] = .ok (.rdRsvdHi k) ∧
      exec (.rdRsvdHi k) s = .next (s.observe (BitVec.ofNat 7 (0x30 + 4 * k.toNat)) (.data 0#32))

/-- 40 R104, 10 R25, R26, R28: selector, and every field of STATUS by bit number. -/
def Obligations.StatusReadReturnsEveryField : Prop :=
  decode [0x08#8] = .ok .rdStatus ∧
  ∀ s : State, ∃ w : Word,
    exec .rdStatus s = .next (s.observe 0x08#7 (.data w)) ∧
    w.toNat % 4 = (match s.jobState with | .idle => 0 | .run => 1 | .done => 2 | .error => 3) ∧
    w.getLsbD 2 = s.cmdErr ∧
    w.getLsbD 3 = s.irq ∧
    w.toNat / 16 % 16 = (match s.errCode with
      | .none => 0 | .dimNotMult8 => 1 | .dimHdrRange => 2 | .dimCapacity => 3 | .inOverrun => 4) ∧
    w.getLsbD 8 = s.produced ∧
    w.toNat < 512

/-- 40 R106, R108, R110, R112, R121: selectors and values; IN_REMAIN is 0 outside RUN. -/
def Obligations.RegisterReadsReturnTheirFields : Prop :=
  (decode [0x0C#8] = .ok .rdConfig ∧ decode [0x10#8] = .ok .rdWidth ∧ decode [0x14#8] = .ok .rdHeight ∧
    decode [0x18#8] = .ok .rdIrqEn ∧ decode [0x28#8] = .ok .rdInRemain) ∧
  ∀ s : State,
    (∃ w : Word, exec .rdConfig s = .next (s.observe 0x0C#7 (.data w)) ∧
      w.getLsbD 0 = s.dw ∧ w.getLsbD 1 = s.dh ∧ w.getLsbD 2 = s.leftWrap ∧ w.toNat < 8) ∧
    exec .rdWidth s = .next (s.observe 0x10#7 (.data s.width)) ∧
    exec .rdHeight s = .next (s.observe 0x14#7 (.data s.height)) ∧
    (∃ w : Word, exec .rdIrqEn s = .next (s.observe 0x18#7 (.data w)) ∧
      w.getLsbD 0 = s.doneEn ∧ w.getLsbD 1 = s.errEn ∧ w.getLsbD 2 = s.cmdErrEn ∧ w.toNat < 8) ∧
    exec .rdInRemain s = .next (s.observe 0x28#7 (.data s.inRemain)) ∧
    (s.Inv → s.jobState ≠ .run → s.inRemain = 0#32)

/-- 40 R114, 10 R35: LEVELS, for FIFO levels within the FIFOs' depths; outside RUN it is IN_DEPTH. -/
def Obligations.LevelsReadReturnsTheFifoLevels : Prop :=
  decode [0x1C#8] = .ok .rdLevels ∧
  ∀ s : State, s.params.legal → s.inq.length ≤ s.params.inDepth → s.outq.length ≤ s.params.outDepth →
    ∃ w : Word, exec .rdLevels s = .next (s.observe 0x1C#7 (.data w)) ∧
      w.toNat % 65536 = s.params.inDepth - s.inq.length ∧ w.toNat / 65536 = s.outq.length ∧
      (s.Inv → s.jobState ≠ .run → w.toNat = s.params.inDepth)

/-! ### Register writes -/

/-- 40 R101, R105, R115, R120, R122, R124: these writes are acknowledged and change nothing. -/
def Obligations.WritesToReadOnlySlotsChangeNothing : Prop :=
  ∀ (s : State) (v : Word),
    (decode (writeFrame 0x40#8 v) = .ok (.wrId v) ∧ exec (.wrId v) s = .next (s.observe 0x40#7 .ack)) ∧
    (decode (writeFrame 0x48#8 v) = .ok (.wrStatus v) ∧
      exec (.wrStatus v) s = .next (s.observe 0x48#7 .ack)) ∧
    (decode (writeFrame 0x5C#8 v) = .ok (.wrLevels v) ∧
      exec (.wrLevels v) s = .next (s.observe 0x5C#7 .ack)) ∧
    (decode (writeFrame 0x64#8 v) = .ok (.wrOutData v) ∧
      exec (.wrOutData v) s = .next (s.observe 0x64#7 .ack)) ∧
    (decode (writeFrame 0x68#8 v) = .ok (.wrInRemain v) ∧
      exec (.wrInRemain v) s = .next (s.observe 0x68#7 .ack)) ∧
    (decode (writeFrame 0x6C#8 v) = .ok (.wrRsvd2C v) ∧
      exec (.wrRsvd2C v) s = .next (s.observe 0x6C#7 .ack)) ∧
    ∀ k : BitVec 2, decode (writeFrame (BitVec.ofNat 8 (0x70 + 4 * k.toNat)) v) = .ok (.wrRsvdHi k v) ∧
      exec (.wrRsvdHi k v) s = .next (s.observe (BitVec.ofNat 7 (0x70 + 4 * k.toNat)) .ack)

/-- 40 R107, R109, R111, R113: each write stores its fields and nothing else, in every state. -/
def Obligations.ConfigurationWritesStoreTheirFields : Prop :=
  ∀ (s : State) (v : Word),
    (decode (writeFrame 0x4C#8 v) = .ok (.wrConfig v) ∧
      exec (.wrConfig v) s = .next (State.observe
        { s with dw := v.getLsbD 0, dh := v.getLsbD 1, leftWrap := v.getLsbD 2 } 0x4C#7 .ack)) ∧
    (decode (writeFrame 0x50#8 v) = .ok (.wrWidth v) ∧
      exec (.wrWidth v) s = .next (State.observe { s with width := v } 0x50#7 .ack)) ∧
    (decode (writeFrame 0x54#8 v) = .ok (.wrHeight v) ∧
      exec (.wrHeight v) s = .next (State.observe { s with height := v } 0x54#7 .ack)) ∧
    (decode (writeFrame 0x58#8 v) = .ok (.wrIrqEn v) ∧
      exec (.wrIrqEn v) s = .next (State.observe
        { s with doneEn := v.getLsbD 0, errEn := v.getLsbD 1, cmdErrEn := v.getLsbD 2 } 0x58#7 .ack))

/-- 40 R116: an IN_DATA write outside RUN, overrunning, and accepted. -/
def Obligations.InDataWriteIsIgnoredRefusedOrAccepted : Prop :=
  ∀ (s : State) (v : Word),
    decode (writeFrame 0x60#8 v) = .ok (.wrInData v) ∧
    (s.jobState ≠ .run → exec (.wrInData v) s = .next (s.observe 0x60#7 .ack)) ∧
    (s.jobState = .run → (s.inRemain = 0#32 ∨ s.inq.length = s.params.inDepth) →
      exec (.wrInData v) s = .next ((s.raiseError .inOverrun).observe 0x60#7 .ack)) ∧
    (s.jobState = .run → s.inRemain ≠ 0#32 → s.inq.length ≠ s.params.inDepth →
      exec (.wrInData v) s = .next (State.observe
        { s with inq := s.inq ++ [v], inRemain := s.inRemain - 1#32 } 0x60#7 .ack))

/-- 40 R119, 30 R86: an OUT_DATA read of an empty FIFO, of an inner byte, and of the LAST byte. On the last,
STATE leaves RUN, so the latches and `seq` become unspecified (`leaveRun`, 10 R44, log 4). -/
def Obligations.OutDataReadPopsTheOldestByte : Prop :=
  decode [0x24#8] = .ok .rdOutData ∧
  ∀ s : State,
    (s.outq = [] → exec .rdOutData s = .next (s.observe 0x24#7 (.data 0#32))) ∧
    ∀ e rest, s.outq = e :: rest → ∃ w : Word,
      w.toNat = e.byte.toNat + 256 + (if e.last then 512 else 0) ∧
      (e.last = false →
        exec .rdOutData s = .next (State.observe { s with outq := rest } 0x24#7 (.data w))) ∧
      (e.last = true →
        exec .rdOutData s = .next (State.observe
          { s.leaveRun with outq := rest, jobState := .done } 0x24#7 (.data w)))

/-! ### Commands -/

/-- 41 R143: which code DIMCHECK reports, for every width, height and W_MAX. -/
def Obligations.DimCheckReportsTheFirstCause : Prop :=
  ∀ wMax w h : Nat,
    (dimCheck wMax w h = .dimNotMult8 ↔ w % 8 ≠ 0) ∧
    (dimCheck wMax w h = .dimHdrRange ↔ w % 8 = 0 ∧ (w / 8 > 65535 ∨ h > 65535)) ∧
    (dimCheck wMax w h = .dimCapacity ↔ w % 8 = 0 ∧ w / 8 ≤ 65535 ∧ h ≤ 65535 ∧ w > wMax) ∧
    (dimCheck wMax w h = .none ↔ w % 8 = 0 ∧ w / 8 ≤ 65535 ∧ h ≤ 65535 ∧ w ≤ wMax)

/-- 41 R144, an accepted START: the latches, IN_REMAIN, PRODUCED, ROWBUF, `seq` and STATE, and nothing else. -/
def Obligations.StartBeginsALegalJob : Prop :=
  ∀ s : State, s.jobState = .idle → s.width.toNat % 8 = 0 → s.width.toNat / 8 ≤ 65535 →
    s.height.toNat ≤ 65535 → s.width.toNat ≤ s.params.wMax → s.params.legal →
    ∃ n : Word, n.toNat = s.width.toNat * s.height.toNat / 4 ∧
      exec .start s = .next (State.observe
        { s with
          jw := s.width, jh := s.height, jdw := s.dw, jdh := s.dh, jwrap := s.leftWrap
          inRemain := n, produced := false, rowbuf := [], seq := 0, jobState := .run } 0x44#7 .ack)

/-- 41 R144, R151: a START that raises an error, and one outside IDLE. -/
def Obligations.StartRejectsBadDimensionsAndBusyStates : Prop :=
  ∀ s : State,
    (s.jobState ≠ .idle → exec .start s = .next (State.observe { s with cmdErr := true } 0x44#7 .ack)) ∧
    (s.jobState = .idle → s.width.toNat % 8 ≠ 0 →
      exec .start s = .next ((s.raiseError .dimNotMult8).observe 0x44#7 .ack)) ∧
    (s.jobState = .idle → s.width.toNat % 8 = 0 → (s.width.toNat / 8 > 65535 ∨ s.height.toNat > 65535) →
      exec .start s = .next ((s.raiseError .dimHdrRange).observe 0x44#7 .ack)) ∧
    (s.jobState = .idle → s.width.toNat % 8 = 0 → s.width.toNat / 8 ≤ 65535 → s.height.toNat ≤ 65535 →
      s.width.toNat > s.params.wMax →
      exec .start s = .next ((s.raiseError .dimCapacity).observe 0x44#7 .ack))

/-- 41 R140, R151: NOP changes nothing; a reserved word sets CMD_ERR and nothing else. -/
def Obligations.NopAndReservedWordsOnlyTouchCmdErr : Prop :=
  ∀ s : State,
    exec .nop s = .next (s.observe 0x44#7 .ack) ∧
    ∀ v : Word, exec (.cmdReserved v) s = .next (State.observe { s with cmdErr := true } 0x44#7 .ack)

/-- 41 R147: ABORT, in every state. The latches and `seq` become unspecified values (log 4). -/
def Obligations.AbortReturnsToIdle : Prop :=
  ∀ s : State, exec .abort s = .next (State.observe
    { s.unspecifyJob with
      inq := [], outq := [], inRemain := 0#32, produced := false, errCode := .none
      rowbuf := [], jobState := .idle } 0x44#7 .ack)

/-- 41 R149: CLEAR, in every state. -/
def Obligations.ClearLeavesDoneAndError : Prop :=
  ∀ s : State,
    (s.jobState = .done ∨ s.jobState = .error → exec .clear s = .next (State.observe
      { s with cmdErr := false, jobState := .idle, errCode := .none, produced := false } 0x44#7 .ack)) ∧
    (s.jobState = .idle ∨ s.jobState = .run →
      exec .clear s = .next (State.observe { s with cmdErr := false } 0x44#7 .ack))

/-- 41 R141, 40 R103: WR_CMD runs the command its whole word names, and completes. -/
def Obligations.WriteToCmdExecutesItsWord : Prop :=
  ∀ (s : State) (v : Word),
    (v = 0#32 → exec (.wrCmd v) s = exec .nop s) ∧
    (v = 1#32 → exec (.wrCmd v) s = exec .start s) ∧
    (v = 2#32 → exec (.wrCmd v) s = exec .abort s) ∧
    (v = 3#32 → exec (.wrCmd v) s = exec .clear s) ∧
    (3 < v.toNat → exec (.wrCmd v) s = .next (State.observe { s with cmdErr := true } 0x44#7 .ack)) ∧
    ∃ t, exec (.wrCmd v) s = .next t

/-! ### Errors, flags, interrupt, reset -/

/-- 60 R235: the error entry, and that it is entered only from IDLE or RUN. The last clause is the model's
choice and not the rule's: entered from outside RUN, it leaves the latches and `seq`, which the spec calls
unspecified there (10 R44, log 4). From RUN they become free values (log 4). -/
def Obligations.ErrorEntryFlushesAndRecords : Prop :=
  (∀ (i : Instr) (s t : State), exec i s = .next t → s.jobState ≠ .error → t.jobState = .error →
    s.jobState = .idle ∨ s.jobState = .run) ∧
  ∀ (s : State) (c : ErrCode),
    (s.raiseError c).jobState = .error ∧ (s.raiseError c).errCode = c ∧
    (s.raiseError c).inq = [] ∧ (s.raiseError c).outq = [] ∧ (s.raiseError c).inRemain = 0#32 ∧
    (∀ a, (s.raiseError c).rowbuf.read a = none) ∧
    (s.raiseError c).cmdErr = s.cmdErr ∧ (s.raiseError c).produced = s.produced ∧
    (s.raiseError c).dw = s.dw ∧ (s.raiseError c).dh = s.dh ∧ (s.raiseError c).leftWrap = s.leftWrap ∧
    (s.raiseError c).width = s.width ∧ (s.raiseError c).height = s.height ∧
    (s.raiseError c).doneEn = s.doneEn ∧ (s.raiseError c).errEn = s.errEn ∧
    (s.raiseError c).cmdErrEn = s.cmdErrEn ∧
    (s.raiseError c).params = s.params ∧ (s.raiseError c).events = s.events ∧
    (s.raiseError c).trace = s.trace ∧
    (s.jobState ≠ .run → (s.raiseError c).jw = s.jw ∧ (s.raiseError c).jh = s.jh ∧
      (s.raiseError c).jdw = s.jdw ∧ (s.raiseError c).jdh = s.jdh ∧
      (s.raiseError c).jwrap = s.jwrap ∧ (s.raiseError c).seq = s.seq)

/-- 60 R230: an error is raised only by START in IDLE, with DIMCHECK's code, and by an overrun in RUN;
the engine raises none. -/
def Obligations.OnlyStartAndOverrunRaiseErrors : Prop :=
  (∀ (i : Instr) (s t : State), exec i s = .next t → s.jobState ≠ .error → t.jobState = .error →
    (isStart i ∧ s.jobState = .idle ∧ t.errCode ≠ .none ∧
      t.errCode = dimCheck s.params.wMax s.width.toNat s.height.toNat) ∨
    (∃ v, i = .wrInData v ∧ s.jobState = .run ∧ t.errCode = .inOverrun ∧
      (s.inRemain = 0#32 ∨ s.inq.length = s.params.inDepth))) ∧
  ∀ s t : State, engineTurn s = .next t → s.jobState ≠ .error → t.jobState ≠ .error

/-- 10 R26: the encodings of STATE, and that STATE changes only in the listed ways. The invariant is a premise
because only it says that a byte is queued in RUN alone. -/
def Obligations.StateChangesOnlyAsListed : Prop :=
  ([JobState.idle, .run, .done, .error].map fun j => j.code.toNat) = [0, 1, 2, 3] ∧
  (∀ (i : Instr) (s t : State), s.Inv → exec i s = .next t → t.jobState ≠ s.jobState →
    (isStart i ∧ s.jobState = .idle ∧ (t.jobState = .run ∨ t.jobState = .error)) ∨
    (isAbort i ∧ t.jobState = .idle) ∨
    (isClear i ∧ (s.jobState = .done ∨ s.jobState = .error) ∧ t.jobState = .idle) ∨
    (i = .rdOutData ∧ (∃ e rest, s.outq = e :: rest ∧ e.last = true) ∧ s.jobState = .run ∧
      t.jobState = .done) ∨
    (∃ v, i = .wrInData v ∧ s.jobState = .run ∧ t.jobState = .error)) ∧
  (∀ s t : State, engineTurn s = .next t → t.jobState = s.jobState) ∧
  ∀ s : State, s.resetBlock.jobState = .idle

/-- 40 R126: which transactions change a FIFO, and how. -/
def Obligations.FifosChangeOnlyAsListed : Prop :=
  ∀ (i : Instr) (s t : State), s.Inv → exec i s = .next t → (t.inq ≠ s.inq ∨ t.outq ≠ s.outq) →
    (∃ v, i = .wrInData v ∧ t.inq = s.inq ++ [v] ∧ t.outq = s.outq) ∨
    (∃ v, i = .wrInData v ∧ t.jobState = .error ∧ t.inq = [] ∧ t.outq = []) ∨
    (i = .rdOutData ∧ t.inq = s.inq ∧ ∃ e, s.outq = e :: t.outq) ∨
    (isAbort i ∧ t.inq = [] ∧ t.outq = [])

/-- 60 R241, R242: the line is the OR of the enabled conditions, and it falls with its condition: after CLEAR
always, after ABORT but for CMD_ERR, and with the enable bits written 0. -/
def Obligations.IrqIsTheOrOfTheEnabledConditions : Prop :=
  (∀ s : State, s.irq = true ↔
    (s.doneEn = true ∧ s.jobState = .done) ∨ (s.errEn = true ∧ s.jobState = .error) ∨
      (s.cmdErrEn = true ∧ s.cmdErr = true)) ∧
  ∀ s : State,
    (∃ t, exec .clear s = .next t ∧ t.irq = false) ∧
    (∃ t, exec .abort s = .next t ∧ t.irq = (s.cmdErrEn && s.cmdErr)) ∧
    (∃ t, exec (.wrIrqEn 0#32) s = .next t ∧ t.irq = false)

/-- 10 R27: who sets CMD_ERR and who clears it. -/
def Obligations.CmdErrIsSetByBadCommandsAndClearedByClear : Prop :=
  (∀ (i : Instr) (s t : State), exec i s = .next t → s.cmdErr = false → t.cmdErr = true →
    (isReservedCommand i ∨ (∃ v, i = .cmdReserved v) ∨ (isStart i ∧ s.jobState ≠ .idle)) ∧
      t.jobState = s.jobState) ∧
  (∀ (i : Instr) (s t : State), exec i s = .next t →
    isReservedCommand i ∨ (isStart i ∧ s.jobState ≠ .idle) → t.cmdErr = true ∧ t.jobState = s.jobState) ∧
  (∀ (i : Instr) (s t : State), exec i s = .next t → s.cmdErr = true → t.cmdErr = false → isClear i) ∧
  (∀ (i : Instr) (s t : State), exec i s = .next t → isClear i → t.cmdErr = false) ∧
  (∀ s t : State, engineTurn s = .next t → t.cmdErr = s.cmdErr) ∧
  ∀ s : State, s.resetBlock.cmdErr = false

/-- 60 R237, R238: the only ways out of ERROR, and no error nests. The invariant is a premise because only it
says that no byte is queued outside RUN (10 R49(b)), so that no LAST byte can be popped there. -/
def Obligations.OnlyClearAbortAndResetLeaveError : Prop :=
  ∀ s : State, s.Inv → s.jobState = .error →
    (∀ t, step s = .next t → t.jobState ≠ .error →
      t.jobState = .idle ∧ (s.resetsNext ∨ ∃ i, s.runsNext i ∧ (isClear i ∨ isAbort i))) ∧
    (∀ t, step s = .next t → t.jobState = .error → t.errCode = s.errCode) ∧
    (∀ v, exec (.wrInData v) s = .next (s.observe 0x60#7 .ack)) ∧
    exec .start s = .next (State.observe { s with cmdErr := true } 0x44#7 .ack) ∧
    engineTurn s = .next s

/-- 70 R260, R261, 10 R50: the reset event happens in one step from any state, and it and `State.reset` leave
every register that the spec gives a reset value at that value; the engine then has no step. -/
def Obligations.ResetPutsEveryRegisterAtItsResetValue : Prop :=
  (∀ (s : State) (rest : List Event), s.events = .reset :: rest → ∃ t, step s = .next t ∧
    t.params = s.params ∧ t.events = rest ∧ t.trace = s.trace) ∧
  ∀ t : State, (t = State.reset ∨ ∃ s rest, s.events = .reset :: rest ∧ step s = .next t) →
    t.jobState = .idle ∧ t.cmdErr = false ∧ t.errCode = .none ∧ t.produced = false ∧
    t.dw = false ∧ t.dh = false ∧ t.leftWrap = false ∧ t.width.toNat = 384 ∧ t.height.toNat = 0 ∧
    t.doneEn = false ∧ t.errEn = false ∧ t.cmdErrEn = false ∧ t.inRemain.toNat = 0 ∧
    t.inq = [] ∧ t.outq = [] ∧ (∀ a, t.rowbuf.read a = none) ∧
    t.irq = false ∧ t.statusWord = 0#32 ∧ engineTurn t = .next t

/-! ### The job program -/

/-- 42 R164, R169: the length of the job program, and its final micro-op: HDR(7) or the last PACK. -/
def Obligations.JobProgramHasTheStatedLengthAndEnd : Prop :=
  ∀ jw jh : Nat, jw % 8 = 0 →
    (jobProg jw jh).length = 8 + jh * jw / 4 + (jh - 2) * (jw - 2) + jh * jw / 8 ∧
    (jw = 0 ∨ jh = 0 → (jobProg jw jh).getLast? = some (.hdr 7)) ∧
    (jw ≠ 0 → jh ≠ 0 → (jobProg jw jh).getLast? = some (.pack (jh - 1) (jw / 8 - 1)))

/-- 42 R162: the header comes first; LOADs consume words in row-major order; VISITs run in the dense scan
order; PACKs run in row-major order. -/
def Obligations.MicroOpsRunInScanOrder : Prop :=
  ∀ jw jh : Nat,
    (jobProg jw jh).take 8 = [.hdr 0, .hdr 1, .hdr 2, .hdr 3, .hdr 4, .hdr 5, .hdr 6, .hdr 7] ∧
    (jobProg jw jh).filterMap MicroOp.loadOf =
      ((List.range jh).flatMap fun t => (List.range (jw / 4)).map fun i => (t, i)) ∧
    (jobProg jw jh).filterMap MicroOp.visitOf = visitOrder jw jh ∧
    (jobProg jw jh).filterMap MicroOp.packOf =
      ((List.range jh).flatMap fun y => (List.range (jw / 8)).map fun b => (y, b))

/-- 42 R173: at VISIT(y, x) rows y, y+1, y+2, whose slots differ, are loaded, and no LOAD has yet overwritten
a slot of theirs; at PACK(y, b) row y is loaded and not overwritten, and no later VISIT writes it (a later VISIT is of a row below). -/
def Obligations.RowsAreResidentWhenUsed : Prop :=
  ∀ jw jh n : Nat,
    (∀ y x, (jobProg jw jh)[n]? = some (.visit y x) →
      x + 3 ≤ jw ∧ y + 3 ≤ jh ∧
      y % 3 ≠ (y + 1) % 3 ∧ (y + 1) % 3 ≠ (y + 2) % 3 ∧ y % 3 ≠ (y + 2) % 3 ∧
      (∀ t i, y ≤ t → t ≤ y + 2 → i < jw / 4 → MicroOp.load t i ∈ (jobProg jw jh).take n) ∧
      (∀ t i, y + 3 ≤ t → MicroOp.load t i ∉ (jobProg jw jh).take n)) ∧
    (∀ y b, (jobProg jw jh)[n]? = some (.pack y b) →
      y < jh ∧ b < jw / 8 ∧
      (∀ i, i < jw / 4 → MicroOp.load y i ∈ (jobProg jw jh).take n) ∧
      (∀ t i, y + 3 ≤ t → MicroOp.load t i ∉ (jobProg jw jh).take n) ∧
      (∀ y' x, MicroOp.visit y' x ∈ (jobProg jw jh).drop n → y < y'))

/-! ### Micro-ops -/

/-- 42 R160, R163, R177: when the engine steps, and that it holds still otherwise. -/
def Obligations.EngineStepsExactlyWhenEnabled : Prop :=
  ∀ s : State,
    (s.engineEnabled = true ↔ s.jobState = .run ∧ ∃ op, s.prog[s.seq]? = some op ∧
      (∀ k, op = .hdr k → s.outq.length < s.params.outDepth) ∧
      (∀ y b, op = .pack y b → s.outq.length < s.params.outDepth) ∧
      (∀ t i, op = .load t i → 0 < s.inq.length)) ∧
    (s.engineEnabled = false → engineTurn s = .next s) ∧
    (∀ t, s.engineEnabled = true → engineTurn s = .next t → t.seq = s.seq + 1)

/-- 42 R165, R170. -/
def Obligations.HdrPushesItsHeaderByte : Prop :=
  ∀ (s : State) (k : Fin 8), s.jobState = .run → s.prog[s.seq]? = some (.hdr k) →
    s.outq.length < s.params.outDepth →
    ∃ b, (header s.jw.toNat s.jh.toNat s.jdw s.jdh)[k.val]? = some b ∧
      engineTurn s = .next
        { s with
          outq := s.outq ++ [⟨b, decide (s.seq + 1 = s.prog.length)⟩]
          produced := s.produced || decide (s.seq + 1 = s.prog.length)
          seq := s.seq + 1 }

/-- 42 R166, R167: LOAD stores four zero-extended pixels and changes no other cell. -/
def Obligations.LoadStoresFourPixels : Prop :=
  ∀ (s : State) (t i : Nat) (w : Word) (rest : List Word), s.jobState = .run →
    s.prog[s.seq]? = some (.load t i) → s.inq = w :: rest → 4 * i + 3 < s.params.wMax →
    ∃ m : Memory, engineTurn s = .next { s with inq := rest, rowbuf := m, seq := s.seq + 1 } ∧
      (∀ k, k < 4 → ∃ c, m.read (rowCellAddr t (4 * i + k)) = some c ∧
        c.toInt = ((w.toNat / 256 ^ k % 256 : Nat) : Int)) ∧
      (∀ a, (∀ k, k < 4 → a ≠ rowCellAddr t (4 * i + k)) → m.read a = s.rowbuf.read a)

/-- 44 R218, R215, R216: PACK pushes the byte whose bit `7 - i` says that pixel `8b + i` is at most 128, and
changes no cell. -/
def Obligations.PackPushesItsEightPixels : Prop :=
  ∀ (s : State) (y b : Nat) (f : Nat → Int), s.jobState = .run → s.prog[s.seq]? = some (.pack y b) →
    s.outq.length < s.params.outDepth → 8 * b + 7 < s.params.wMax →
    (∀ i, i < 8 → ∃ c, s.rowbuf.read (rowCellAddr y (8 * b + i)) = some c ∧ c.toInt = f i) →
    ∃ byte : Byte, (∀ i, i < 8 → byte.getLsbD (7 - i) = decide (f i ≤ 128)) ∧
      engineTurn s = .next
        { s with
          outq := s.outq ++ [⟨byte, decide (s.seq + 1 = s.prog.length)⟩]
          produced := s.produced || decide (s.seq + 1 = s.prog.length)
          seq := s.seq + 1 }

/-- 43 R185: VISIT overwrites the current cell with the threshold of its value, adds each kept share to its
target and truncates the sum, and changes no other cell. `target` is TARGET (43 R187) and `diff` is DIFF
(43 R186); a cell's content is `cellOfInt` of the stated integer, which is that integer wherever it fits ten
bits (`DiffusionFitsTheDatapath`) and the model's free value elsewhere (log 15). `VisitTargetsAreDistinctAndLater`
states the targets' exact values. -/
def Obligations.VisitDiffusesItsError : Prop :=
  ∀ (s : State) (y x : Nat), s.jobState = .run → s.prog[s.seq]? = some (.visit y x) →
    8 ≤ s.jw.toNat → s.jw.toNat ≤ s.params.wMax → s.params.wMax ≤ 65528 →
    (∀ t col, y ≤ t → t ≤ y + 2 → col < s.jw.toNat → (s.rowbuf.read (rowCellAddr t col)).isSome = true) →
    ∃ (c : Cell) (m : Memory), s.rowbuf.read (rowCellAddr y x) = some c ∧
      engineTurn s = .next { s with rowbuf := m, seq := s.seq + 1 } ∧
      m.read (rowCellAddr y x) = some (cellOfInt (if c.toInt > 128 then 255 else 0)) ∧
      (∀ k ∈ kernel, ∀ tx ty, target x y s.jw.toNat s.jwrap k = some (tx, ty) →
        ∃ old, s.rowbuf.read (rowCellAddr ty tx) = some old ∧
          m.read (rowCellAddr ty tx) =
            some (cellOfInt (diff old.toInt (c.toInt - if c.toInt > 128 then 255 else 0) k.w))) ∧
      (∀ a, a ≠ rowCellAddr y x →
        (∀ k ∈ kernel, ∀ tx ty, target x y s.jw.toNat s.jwrap k = some (tx, ty) → a ≠ rowCellAddr ty tx) →
        m.read a = s.rowbuf.read a)

/-- 42 R171: what an engine step never writes, and that it only removes from INQ or only appends to OUTQ. -/
def Obligations.EngineLeavesTheHostsStateAlone : Prop :=
  ∀ s t : State, engineTurn s = .next t →
    t.jobState = s.jobState ∧ t.errCode = s.errCode ∧ t.cmdErr = s.cmdErr ∧
    t.dw = s.dw ∧ t.dh = s.dh ∧ t.leftWrap = s.leftWrap ∧ t.width = s.width ∧ t.height = s.height ∧
    t.doneEn = s.doneEn ∧ t.errEn = s.errEn ∧ t.cmdErrEn = s.cmdErrEn ∧ t.inRemain = s.inRemain ∧
    t.jw = s.jw ∧ t.jh = s.jh ∧ t.jdw = s.jdw ∧ t.jdh = s.jdh ∧ t.jwrap = s.jwrap ∧
    t.params = s.params ∧ t.events = s.events ∧ t.trace = s.trace ∧
    (t.outq = s.outq ∧ (t.inq = s.inq ∨ ∃ w, s.inq = w :: t.inq) ∨
      t.inq = s.inq ∧ ∃ e, t.outq = s.outq ++ [e])

/-! ### Ditherer and packer arithmetic -/

/-- 43 R181, R182: the table of the twelve entries, whose numerators sum to 48. -/
def Obligations.KernelWeightsSumToOne : Prop :=
  (kernel.map fun k => (k.dx, k.dy, k.w)) =
      [(1, 0, 7), (2, 0, 5), (-2, 1, 3), (-1, 1, 5), (0, 1, 7), (1, 1, 5), (2, 1, 3),
       (-2, 2, 1), (-1, 2, 3), (0, 2, 5), (1, 2, 3), (2, 2, 1)] ∧
    (kernel.map KernelEntry.w).sum = 48

/-- 43 R186: DIFF by the sign of the exact sum (on `Int`, `/` by 48 is the floor), and the rule's example, where
truncating the share alone would give 5. -/
def Obligations.DiffTruncatesTheSumTowardZero : Prop :=
  diff 5 (-7) 1 = 4 ∧
  ∀ s e w : Int,
    (0 ≤ 48 * s + w * e → diff s e w = s + w * e / 48) ∧
    (48 * s + w * e < 0 → diff s e w = s - (-(w * e)) / 48) ∧
    diff s 0 w = s

/-- 43 R196, R195: for a cell in `[-128, 383]` and an error in `[-128, 128]` the numerator fits 16 bits and the
quotient fits the 10-bit cell, which then holds it exactly. -/
def Obligations.DiffusionFitsTheDatapath : Prop :=
  ∀ (s e : Int) (k : KernelEntry), k ∈ kernel → -128 ≤ s → s ≤ 383 → -128 ≤ e → e ≤ 128 →
    -7040 ≤ 48 * s + k.w * e ∧ 48 * s + k.w * e ≤ 19280 ∧
    -146 ≤ diff s e k.w ∧ diff s e k.w ≤ 401 ∧ (cellOfInt (diff s e k.w)).toInt = diff s e k.w

/-- 43 R187, R188, R193: the target of each kernel entry, which under LEFT_WRAP is in the right end of the same
row where the entry falls left of column 0 and without it is discarded; and the kept targets of a VISIT are
distinct cells of rows y to y+2 inside the image, none is the current pixel, and each is later in row-major
order. -/
def Obligations.VisitTargetsAreDistinctAndLater : Prop :=
  ∀ (x y jw : Nat) (wrap : Bool), 8 ≤ jw → x + 3 ≤ jw →
    (∀ k ∈ kernel,
      (0 ≤ (x : Int) + k.dx →
        ∃ tx : Nat, (tx : Int) = x + k.dx ∧ target x y jw wrap k = some (tx, y + k.dy)) ∧
      ((x : Int) + k.dx < 0 → wrap = true →
        ∃ tx : Nat, (tx : Int) = x + k.dx + jw ∧ target x y jw wrap k = some (tx, y + k.dy)) ∧
      ((x : Int) + k.dx < 0 → wrap = false → target x y jw wrap k = none)) ∧
    (kernel.filterMap (target x y jw wrap)).Nodup ∧
    ∀ p ∈ kernel.filterMap (target x y jw wrap),
      p.1 < jw ∧ y ≤ p.2 ∧ p.2 ≤ y + 2 ∧ (p.2 = y → x < p.1)

/-- 44 R210, R211, R212: the header's bytes carry the mode and both dimensions, low byte first. -/
def Obligations.HeaderEncodesModeAndDimensions : Prop :=
  ∀ (jw jh : Nat) (dw dh : Bool), jw / 8 ≤ 65535 → jh ≤ 65535 →
    ∃ m xL xH yL yH : Byte, header jw jh dw dh = [0x1D#8, 0x76#8, 0x30#8, m, xL, xH, yL, yH] ∧
      m.toNat = (if dw then 1 else 0) + (if dh then 2 else 0) ∧
      xL.toNat + 256 * xH.toNat = jw / 8 ∧ yL.toNat + 256 * yH.toNat = jh

/-! ### The stream -/

/-- 30 R87, R88, R89: the stream is the header and then the bitmap; its length; and stream byte
`8 + y·(w/8) + b` holds pixels `8b .. 8b+7` of row `y`, the leftmost in bit 7. -/
def Obligations.StreamBytesHoldTheirPixels : Prop :=
  ∀ (i : Image) (w h : Nat) (dw dh wrap : Bool),
    (stream i w h dw dh wrap).take 8 = header w h dw dh ∧
    (stream i w h dw dh wrap).length = 8 + w / 8 * h ∧
    ∀ y b, y < h → b < w / 8 → ∃ byte : Byte,
      (stream i w h dw dh wrap)[8 + y * (w / 8) + b]? = some byte ∧
      ∀ k, k < 8 → byte.getLsbD (7 - k) = decide (Image.get (dither i w h wrap) y (8 * b + k) ≤ 128)

/-- 44 R219: an all-white image gives no ink, an all-black image gives ink everywhere. -/
def Obligations.WhiteAndBlackImagesStayPlain : Prop :=
  ∀ (w h : Nat) (wrap : Bool), w % 8 = 0 →
    packAll (dither (Image.ofPixels w h fun _ _ => 255) w h wrap) w h = List.replicate (w / 8 * h) 0x00#8 ∧
    packAll (dither (Image.ofPixels w h fun _ _ => 0) w h wrap) w h = List.replicate (w / 8 * h) 0xFF#8

/-- 43 R193, R198: after DITHER every visited pixel is exactly 0 or 255. -/
def Obligations.VisitedPixelsEndBlackOrWhite : Prop :=
  ∀ (i : Image) (w h y x : Nat) (wrap : Bool), i.hasSize w h → w % 8 = 0 → y + 3 ≤ h → x + 3 ≤ w →
    Image.get (dither i w h wrap) y x = 0 ∨ Image.get (dither i w h wrap) y x = 255

/-- 43 R195 on the dense array, after any number of visits: every pixel is in `[-128, 383]`, so the error of
the next visit is in `[-128, 128]`. -/
def Obligations.DitheringStaysInRange : Prop :=
  ∀ (i : Image) (w h n : Nat) (wrap : Bool), i.hasSize w h → w % 8 = 0 →
    (∀ y x, 0 ≤ Image.get i y x ∧ Image.get i y x ≤ 255) →
    ∀ y x,
      -128 ≤ Image.get (((visitOrder w h).take n).foldl (fun p yx => ditherVisit w wrap p yx.1 yx.2) i) y x ∧
      Image.get (((visitOrder w h).take n).foldl (fun p yx => ditherVisit w wrap p yx.1 yx.2) i) y x ≤ 383

/-- 42 R172: an engine that has all the words and room for all the bytes pushes exactly STREAM(I), LAST on the
final byte alone. It takes the list of events for empty, so that every step is the engine's turn: that schedule
is the model's choice (log 6). -/
def Obligations.EngineRunPushesTheStream : Prop :=
  ∀ (s : State) (words : List Word), s.params.legal → s.jobState = .run → s.jw.toNat % 8 = 0 →
    s.jw.toNat ≤ s.params.wMax → s.jh.toNat ≤ 65535 → s.seq = 0 → s.produced = false → s.rowbuf = [] →
    s.outq = [] → s.events = [] → s.inq = words → words.length = s.jw.toNat * s.jh.toNat / 4 →
    8 + s.jw.toNat / 8 * s.jh.toNat ≤ s.params.outDepth →
    ∃ t : State, Sys2Proof.core.run s.prog.length s = .next t ∧
      t.outq.map OutEntry.byte =
        stream (imageOfWords words s.jw.toNat s.jh.toNat) s.jw.toNat s.jh.toNat s.jdw s.jdh s.jwrap ∧
      t.outq.map OutEntry.last =
        List.replicate (7 + s.jw.toNat / 8 * s.jh.toNat) false ++ [true] ∧
      t.produced = true ∧ t.jobState = .run ∧ t.inq = []

/-- 42 R172, R175: whatever the interleaving of the engine with a host that issues no command and feeds the
job's words in order, what the host has read and what is queued is a beginning of STREAM(I); it is all of it
once PRODUCED, and DONE means that the host has read all of it. The host may read and write every other
register, CONFIG, WIDTH and HEIGHT among them, at any time. Of commands during a job `RunningJobKeepsItsLatches`
speaks. -/
def Obligations.EveryInterleavingDeliversTheStream : Prop :=
  ∀ (s t : State) (words : List Word) (n : Nat), s.JobStart → s.trace = [] →
    words.length = s.jw.toNat * s.jh.toNat / 4 →
    (∀ e ∈ s.events, isStreaming s.params e) → s.events.filterMap (Event.inWord s.params) <+: words →
    Sys2Proof.core.run n s = .next t → t.jobState ≠ .error →
    (delivered t.trace ++ t.outq.map OutEntry.byte) <+:
      stream (imageOfWords words s.jw.toNat s.jh.toNat) s.jw.toNat s.jh.toNat s.jdw s.jdh s.jwrap ∧
    (t.jobState = .run → t.produced = true → delivered t.trace ++ t.outq.map OutEntry.byte =
      stream (imageOfWords words s.jw.toNat s.jh.toNat) s.jw.toNat s.jh.toNat s.jdw s.jdh s.jwrap) ∧
    (t.jobState = .done → delivered t.trace =
      stream (imageOfWords words s.jw.toNat s.jh.toNat) s.jw.toNat s.jh.toNat s.jdw s.jdh s.jwrap)

/-- 42 R175: an enabled engine step and an accepted IN_DATA write give the same state in either order, and so
do an enabled engine step and the read of an inner stream byte. -/
def Obligations.EngineStepsCommuteWithDataAccesses : Prop :=
  ∀ s t : State, s.engineEnabled = true → engineTurn s = .next t →
    (∀ v, s.inRemain ≠ 0#32 → s.inq.length < s.params.inDepth →
      ∃ u w, exec (.wrInData v) s = .next u ∧ engineTurn u = .next w ∧ exec (.wrInData v) t = .next w) ∧
    (∀ e rest, s.outq = e :: rest → e.last = false →
      ∃ u w, exec .rdOutData s = .next u ∧ engineTurn u = .next w ∧ exec .rdOutData t = .next w)

/-! ### Invariants and whole-machine rules -/

/-- The invariant holds right after reset, for every legal choice of parameters and every list of events. -/
def Obligations.InvariantHoldsAfterReset : Prop :=
  (∀ (p : Params) (evs : List Event), p.legal → (State.boot p evs).Inv) ∧ State.reset.Inv

/-- 10 R49 and what makes it inductive: every step keeps the invariant, from every state that has it. -/
def Obligations.EveryStepKeepsTheInvariant : Prop :=
  ∀ s t : State, s.Inv → step s = .next t → t.Inv

/-- 42 R174, 10 R41: from a state that has the invariant no step is a fault, so UNWRITTEN_CELL is unreachable. -/
def Obligations.NoStepFromTheInvariantFaults : Prop :=
  ∀ (s : State) (f : Fault), s.Inv → step s ≠ .fault f

/-- 43 R195 on the machine: in every state that any machine reaches, whatever its host does, every cell is in
`[-128, 383]`, so the error of a visit of that cell is in `[-128, 128]`. -/
def Obligations.ReachableCellsStayInRange : Prop :=
  ∀ (s : State) (a : Nat) (c : Cell), Reachable s → s.rowbuf.read a = some c →
    -128 ≤ c.toInt ∧ c.toInt ≤ 383 ∧ -128 ≤ c.toInt - thr c.toInt ∧ c.toInt - thr c.toInt ≤ 128

/-- ROWBUF keeps its canonical form and the parameters never change, in every step from every state. -/
def Obligations.StepsKeepMemoryCanonicalAndParametersFixed : Prop :=
  ∀ s t : State, step s = .next t →
    t.params = s.params ∧ (s.rowbuf.wf = true → t.rowbuf.wf = true)

/-- 10 R44, 41 R145, 70 R265: while a job runs, neither the host's transactions nor the engine write the
latches, and the host moves neither `seq` nor ROWBUF. -/
def Obligations.RunningJobKeepsItsLatches : Prop :=
  (∀ (i : Instr) (s t : State), exec i s = .next t → s.jobState = .run → t.jobState = .run →
    t.jw = s.jw ∧ t.jh = s.jh ∧ t.jdw = s.jdw ∧ t.jdh = s.jdh ∧ t.jwrap = s.jwrap ∧
    t.seq = s.seq ∧ t.rowbuf = s.rowbuf) ∧
  ∀ s t : State, engineTurn s = .next t →
    t.jw = s.jw ∧ t.jh = s.jh ∧ t.jdw = s.jdw ∧ t.jdh = s.jdh ∧ t.jwrap = s.jwrap

/-- 70 R271: a write is accepted when a LEVELS read after the previous write saw room and the job still needs
a word, however many engine steps come between. It takes the list of events for empty, so that every step
between is the engine's turn: that schedule is the model's choice (log 6). -/
def Obligations.FlowControlledWritesAreAccepted : Prop :=
  ∀ (s t : State) (n : Nat) (v : Word), s.Inv → s.jobState = .run → s.events = [] →
    s.inq.length < s.params.inDepth → s.inRemain ≠ 0#32 → Sys2Proof.core.run n s = .next t →
    ∃ u, exec (.wrInData v) t = .next u ∧ u.jobState = .run ∧ u.inq = t.inq ++ [v] ∧
      u.inRemain.toNat + 1 = t.inRemain.toNat

/-- 42 R176: a running job that is not finished makes progress, or waits for a word that the host may write,
or waits for room that the host may make. -/
def Obligations.UnfinishedJobsProgressOrWaitForTheHost : Prop :=
  ∀ s : State, s.Inv → s.jobState = .run → s.seq < s.prog.length →
    (s.engineEnabled = true ∧ ∃ t, engineTurn s = .next t ∧ t.seq = s.seq + 1) ∨
    ((∃ t i, s.prog[s.seq]? = some (.load t i)) ∧ s.inq = [] ∧ s.inRemain ≠ 0#32) ∨
    (((∃ k, s.prog[s.seq]? = some (.hdr k)) ∨ ∃ y b, s.prog[s.seq]? = some (.pack y b)) ∧
      s.outq.length = s.params.outDepth ∧ s.outq ≠ [])
end

