-- ==== Sys2Proof/Laws/Decode.lean ====
section
/-! SUPPORT. Lanes and words. -/

namespace Sys2Proof

/-- A word is made of its lanes (20 R64). -/
@[simp] theorem ofLanes_lane (v : Word) : ofLanes (lane v 0) (lane v 1) (lane v 2) (lane v 3) = v := by
  unfold ofLanes lane
  ext i hi
  simp only [BitVec.getElem_append, BitVec.getElem_extractLsb']
  repeat' split
  all_goals first
    | (rw [BitVec.getLsbD_eq_getElem (by omega)]; congr 1; omega)

/-- Bit `j` of a word made of lanes. -/
theorem getLsbD_ofLanes (b0 b1 b2 b3 : Byte) (j : Nat) :
    (ofLanes b0 b1 b2 b3).getLsbD j =
      if j < 8 then b0.getLsbD j else if j < 16 then b1.getLsbD (j - 8)
      else if j < 24 then b2.getLsbD (j - 16) else b3.getLsbD (j - 24) := by
  show (b3 ++ b2 ++ b1 ++ b0 : BitVec (8 + 8 + 8 + 8)).getLsbD j = _
  simp only [BitVec.getLsbD_append, Nat.sub_sub]
  by_cases h : j < 8
  · simp [h]
  · by_cases h' : j < 16
    · simp [h, h', show j - 8 < 8 by omega]
    · by_cases h'' : j < 24
      · simp [h, h', h'', show ¬ j - 8 < 8 by omega, show j - 16 < 8 by omega]
      · simp [h, h', h'', show ¬ j - 8 < 8 by omega, show ¬ j - 16 < 8 by omega]

theorem getLsbD_lane (v : Word) (k i : Nat) (hi : i < 8) : (lane v k).getLsbD i = v.getLsbD (8 * k + i) := by
  simp [lane, hi]

theorem lane_ofLanes_zero (b0 b1 b2 b3 : Byte) : lane (ofLanes b0 b1 b2 b3) 0 = b0 := by
  apply BitVec.eq_of_getLsbD_eq; intro i hi
  rw [getLsbD_lane _ _ _ hi, getLsbD_ofLanes, if_pos (by omega)]; congr 1; omega

theorem lane_ofLanes_one (b0 b1 b2 b3 : Byte) : lane (ofLanes b0 b1 b2 b3) 1 = b1 := by
  apply BitVec.eq_of_getLsbD_eq; intro i hi
  rw [getLsbD_lane _ _ _ hi, getLsbD_ofLanes, if_neg (by omega), if_pos (by omega)]; congr 1; omega

theorem lane_ofLanes_two (b0 b1 b2 b3 : Byte) : lane (ofLanes b0 b1 b2 b3) 2 = b2 := by
  apply BitVec.eq_of_getLsbD_eq; intro i hi
  rw [getLsbD_lane _ _ _ hi, getLsbD_ofLanes, if_neg (by omega), if_neg (by omega), if_pos (by omega)]
  congr 1; omega

theorem lane_ofLanes_three (b0 b1 b2 b3 : Byte) : lane (ofLanes b0 b1 b2 b3) 3 = b3 := by
  apply BitVec.eq_of_getLsbD_eq; intro i hi
  rw [getLsbD_lane _ _ _ hi, getLsbD_ofLanes, if_neg (by omega), if_neg (by omega), if_neg (by omega)]
  congr 1; omega

/-- The lanes of a word made of lanes. -/
theorem commandFrame_ofLanes (b0 b1 b2 b3 : Byte) : commandFrame (ofLanes b0 b1 b2 b3) = [b0, b1, b2, b3] := by
  simp [commandFrame, lane_ofLanes_zero, lane_ofLanes_one, lane_ofLanes_two, lane_ofLanes_three]

/-- Format CMD, by its word. -/
theorem decode_commandFrame (v : Word) : decode (commandFrame v) = .ok (decodeCommand v) := by
  simp [decode, commandFrame]

/-- Format BUS, a write, by its selector and data. -/
theorem decode_writeFrame (sel : Byte) (v : Word) (h7 : sel.getLsbD 7 = false)
    (h6 : sel.getLsbD 6 = true) : decode (writeFrame sel v) = .ok (decodeSelector sel v) := by
  simp only [decode, writeFrame, commandFrame, h7, h6, ofLanes_lane]
  rfl

/-- Format BUS, a read, by its selector. -/
theorem decode_readFrame (sel : Byte) (h7 : sel.getLsbD 7 = false) (h6 : sel.getLsbD 6 = false) :
    decode (readFrame sel) = .ok (decodeSelector sel 0#32) := by
  simp only [decode, readFrame, h7, h6]
  rfl

end Sys2Proof
end

