-- ==== Sys2Proof/Laws/Memory.lean ====
section
/-! SUPPORT. The laws of ROWBUF: reading after writing, the canonical form, and what the cell
operations can answer. -/

namespace Sys2Proof.Machine

/-! ### Reading after writing -/

theorem Memory.read_write_same (m : Memory) (a : Nat) (c : Cell) : (m.write a c).read a = some c := by
  induction m with
  | nil => simp [Memory.write, Memory.read]
  | cons x rest ih =>
    obtain ⟨b, d⟩ := x
    unfold Memory.write
    split
    · simp [Memory.read]
    · split
      · simp [Memory.read]
      · rename_i h1 h2
        simp only [Memory.read]
        rw [if_neg (by omega)]
        exact ih

theorem Memory.read_write_other (m : Memory) {a a' : Nat} (h : a' ≠ a) (c : Cell) :
    (m.write a c).read a' = m.read a' := by
  induction m with
  | nil => simp [Memory.write, Memory.read, Ne.symm h]
  | cons x rest ih =>
    obtain ⟨b, d⟩ := x
    unfold Memory.write
    split
    · simp [Memory.read, Ne.symm h]
    · split
      · rename_i h1 h2
        subst h2
        simp [Memory.read, Ne.symm h]
      · simp only [Memory.read, ih]

/-- A write, read back anywhere. -/
theorem Memory.read_write (m : Memory) (a a' : Nat) (c : Cell) :
    (m.write a c).read a' = if a' = a then some c else m.read a' := by
  split
  · rename_i h; subst h; exact m.read_write_same a' c
  · rename_i h; exact m.read_write_other h c

@[simp] theorem Memory.read_nil (a : Nat) : Memory.read [] a = none := rfl
@[simp] theorem Memory.read_empty (a : Nat) : Memory.read Memory.empty a = none := rfl

/-! ### The canonical form -/

theorem Memory.sortedFrom_mono {lo lo' : Nat} {m : Memory} (h : Memory.sortedFrom lo m = true)
    (hl : lo' ≤ lo) : Memory.sortedFrom lo' m = true := by
  cases m with
  | nil => rfl
  | cons x rest =>
    obtain ⟨b, d⟩ := x
    simp only [Memory.sortedFrom, Bool.and_eq_true, decide_eq_true_eq] at h ⊢
    exact ⟨by omega, h.2⟩

theorem Memory.sortedFrom_write {lo a : Nat} {m : Memory} (c : Cell)
    (h : Memory.sortedFrom lo m = true) (ha : lo ≤ a) : Memory.sortedFrom lo (m.write a c) = true := by
  induction m generalizing lo with
  | nil => simp [Memory.write, Memory.sortedFrom, ha]
  | cons x rest ih =>
    obtain ⟨b, d⟩ := x
    simp only [Memory.sortedFrom, Bool.and_eq_true, decide_eq_true_eq] at h
    unfold Memory.write
    split
    · rename_i hab
      simp only [Memory.sortedFrom, Bool.and_eq_true, decide_eq_true_eq]
      exact ⟨ha, by omega, h.2⟩
    · split
      · rename_i hab
        subst hab
        simp only [Memory.sortedFrom, Bool.and_eq_true, decide_eq_true_eq]
        exact ⟨ha, h.2⟩
      · simp only [Memory.sortedFrom, Bool.and_eq_true, decide_eq_true_eq]
        exact ⟨h.1, ih h.2 (by omega)⟩

/-- Every memory operation keeps the canonical form: the write does. -/
theorem Memory.wf_write {m : Memory} (h : m.wf = true) (a : Nat) (c : Cell) : (m.write a c).wf = true :=
  Memory.sortedFrom_write c h (Nat.zero_le a)

@[simp] theorem Memory.wf_nil : Memory.wf [] = true := rfl
@[simp] theorem Memory.wf_empty : Memory.wf Memory.empty = true := rfl

theorem Memory.read_below {lo a : Nat} {m : Memory} (h : Memory.sortedFrom lo m = true) (ha : a < lo) :
    m.read a = none := by
  induction m generalizing lo with
  | nil => rfl
  | cons x rest ih =>
    obtain ⟨b, d⟩ := x
    simp only [Memory.sortedFrom, Bool.and_eq_true, decide_eq_true_eq] at h
    simp only [Memory.read]
    rw [if_neg (by omega)]
    exact ih h.2 (by omega)

theorem Memory.eq_of_read_eq {lo : Nat} {m m' : Memory} (h : Memory.sortedFrom lo m = true)
    (h' : Memory.sortedFrom lo m' = true) (hr : ∀ a, m.read a = m'.read a) : m = m' := by
  induction m generalizing m' lo with
  | nil =>
    cases m' with
    | nil => rfl
    | cons y rest' =>
      have := hr y.1
      simp [Memory.read] at this
  | cons x rest ih =>
    obtain ⟨b, d⟩ := x
    cases m' with
    | nil =>
      have := hr b
      simp [Memory.read] at this
    | cons y rest' =>
      obtain ⟨b', d'⟩ := y
      simp only [Memory.sortedFrom, Bool.and_eq_true, decide_eq_true_eq] at h h'
      have hb : b = b' := by
        rcases Nat.lt_trichotomy b b' with hlt | heq | hgt
        · have := hr b
          simp only [Memory.read, if_true] at this
          rw [if_neg (by omega), Memory.read_below h'.2 (by omega)] at this
          simp at this
        · exact heq
        · have := hr b'
          simp only [Memory.read, if_true] at this
          rw [if_neg (by omega), Memory.read_below h.2 (by omega)] at this
          simp at this
      subst hb
      have hd : d = d' := by
        have := hr b
        simpa [Memory.read] using this
      subst hd
      have : rest = rest' := by
        refine ih h.2 h'.2 fun a => ?_
        by_cases hab : b = a
        · subst hab
          rw [Memory.read_below h.2 (by omega), Memory.read_below h'.2 (by omega)]
        · have := hr a
          simpa [Memory.read, hab] using this
      rw [this]

/-- Canonical memories that read alike everywhere are equal data. -/
theorem Memory.ext_of_wf {m m' : Memory} (h : m.wf = true) (h' : m'.wf = true)
    (hr : ∀ a, m.read a = m'.read a) : m = m' :=
  Memory.eq_of_read_eq h h' hr

/-! ### Addresses -/

theorem cellAddr_inj {s c s' c' : Nat} (hc : c < 65536) (hc' : c' < 65536) :
    cellAddr s c = cellAddr s' c' ↔ s = s' ∧ c = c' := by
  unfold cellAddr; omega

theorem rowCellAddr_inj {t x t' x' : Nat} (hx : x < 65536) (hx' : x' < 65536) :
    rowCellAddr t x = rowCellAddr t' x' ↔ t % 3 = t' % 3 ∧ x = x' :=
  cellAddr_inj hx hx'

/-! ### Cells -/

/-- A cell holds every integer of its range exactly (10 R39). -/
theorem cellOfInt_toInt {n : Int} (h : -512 ≤ n) (h' : n ≤ 511) : (cellOfInt n).toInt = n := by
  unfold cellOfInt
  rw [if_pos ⟨h, h'⟩, BitVec.toInt_ofInt]
  simp only [Int.bmod_def]
  split <;> omega

/-- What reading a cell can answer. -/
theorem Memory.readCell_ok {m : Memory} {wMax t x : Nat} {v : Int} (h : m.readCell wMax t x = .ok v) :
    x < wMax ∧ ∃ c, m.read (rowCellAddr t x) = some c ∧ v = c.toInt := by
  unfold Memory.readCell at h
  split at h
  · rename_i hx
    split at h
    · rename_i c hc
      exact ⟨hx, c, hc, by simpa using h.symm⟩
    · simp at h
  · simp at h

theorem Memory.readCell_of_read {m : Memory} {wMax t x : Nat} {c : Cell} (hx : x < wMax)
    (h : m.read (rowCellAddr t x) = some c) : m.readCell wMax t x = .ok c.toInt := by
  simp [Memory.readCell, hx, h]

/-- What writing a cell can answer. -/
theorem Memory.writeCell_ok {m m' : Memory} {wMax t x : Nat} {n : Int}
    (h : m.writeCell wMax t x n = .ok m') : x < wMax ∧ m' = m.write (rowCellAddr t x) (cellOfInt n) := by
  unfold Memory.writeCell at h
  split at h
  · rename_i hx
    exact ⟨hx, by simpa using h.symm⟩
  · simp at h

theorem Memory.writeCell_of_lt {m : Memory} {wMax t x : Nat} (n : Int) (hx : x < wMax) :
    m.writeCell wMax t x n = .ok (m.write (rowCellAddr t x) (cellOfInt n)) := by
  simp [Memory.writeCell, hx]

theorem Memory.writeCell_wf {m m' : Memory} {wMax t x : Nat} {n : Int} (hm : m.wf = true)
    (h : m.writeCell wMax t x n = .ok m') : m'.wf = true := by
  obtain ⟨-, rfl⟩ := Memory.writeCell_ok h
  exact Memory.wf_write hm _ _

end Sys2Proof.Machine
end

