-- ==== Sys2Proof/Laws/State.lean ====
section
/-! SUPPORT. One lemma per field of State per named update, so that no proof unfolds an update. -/

namespace Sys2Proof.Machine.State

/-! ### observe -/

@[simp] theorem observe_params (s : State) (sel : BitVec 7) (r : Reply) : (s.observe sel r).params = s.params := rfl
@[simp] theorem observe_jobState (s : State) (sel : BitVec 7) (r : Reply) : (s.observe sel r).jobState = s.jobState := rfl
@[simp] theorem observe_cmdErr (s : State) (sel : BitVec 7) (r : Reply) : (s.observe sel r).cmdErr = s.cmdErr := rfl
@[simp] theorem observe_errCode (s : State) (sel : BitVec 7) (r : Reply) : (s.observe sel r).errCode = s.errCode := rfl
@[simp] theorem observe_produced (s : State) (sel : BitVec 7) (r : Reply) : (s.observe sel r).produced = s.produced := rfl
@[simp] theorem observe_dw (s : State) (sel : BitVec 7) (r : Reply) : (s.observe sel r).dw = s.dw := rfl
@[simp] theorem observe_dh (s : State) (sel : BitVec 7) (r : Reply) : (s.observe sel r).dh = s.dh := rfl
@[simp] theorem observe_leftWrap (s : State) (sel : BitVec 7) (r : Reply) : (s.observe sel r).leftWrap = s.leftWrap := rfl
@[simp] theorem observe_width (s : State) (sel : BitVec 7) (r : Reply) : (s.observe sel r).width = s.width := rfl
@[simp] theorem observe_height (s : State) (sel : BitVec 7) (r : Reply) : (s.observe sel r).height = s.height := rfl
@[simp] theorem observe_doneEn (s : State) (sel : BitVec 7) (r : Reply) : (s.observe sel r).doneEn = s.doneEn := rfl
@[simp] theorem observe_errEn (s : State) (sel : BitVec 7) (r : Reply) : (s.observe sel r).errEn = s.errEn := rfl
@[simp] theorem observe_cmdErrEn (s : State) (sel : BitVec 7) (r : Reply) : (s.observe sel r).cmdErrEn = s.cmdErrEn := rfl
@[simp] theorem observe_inRemain (s : State) (sel : BitVec 7) (r : Reply) : (s.observe sel r).inRemain = s.inRemain := rfl
@[simp] theorem observe_inq (s : State) (sel : BitVec 7) (r : Reply) : (s.observe sel r).inq = s.inq := rfl
@[simp] theorem observe_outq (s : State) (sel : BitVec 7) (r : Reply) : (s.observe sel r).outq = s.outq := rfl
@[simp] theorem observe_jw (s : State) (sel : BitVec 7) (r : Reply) : (s.observe sel r).jw = s.jw := rfl
@[simp] theorem observe_jh (s : State) (sel : BitVec 7) (r : Reply) : (s.observe sel r).jh = s.jh := rfl
@[simp] theorem observe_jdw (s : State) (sel : BitVec 7) (r : Reply) : (s.observe sel r).jdw = s.jdw := rfl
@[simp] theorem observe_jdh (s : State) (sel : BitVec 7) (r : Reply) : (s.observe sel r).jdh = s.jdh := rfl
@[simp] theorem observe_jwrap (s : State) (sel : BitVec 7) (r : Reply) : (s.observe sel r).jwrap = s.jwrap := rfl
@[simp] theorem observe_seq (s : State) (sel : BitVec 7) (r : Reply) : (s.observe sel r).seq = s.seq := rfl
@[simp] theorem observe_rowbuf (s : State) (sel : BitVec 7) (r : Reply) : (s.observe sel r).rowbuf = s.rowbuf := rfl
@[simp] theorem observe_freeCtr (s : State) (sel : BitVec 7) (r : Reply) : (s.observe sel r).freeCtr = s.freeCtr := rfl
@[simp] theorem observe_events (s : State) (sel : BitVec 7) (r : Reply) : (s.observe sel r).events = s.events := rfl
@[simp] theorem observe_trace (s : State) (sel : BitVec 7) (r : Reply) : (s.observe sel r).trace = s.trace ++ [{ sel := sel, reply := r, irq := s.irq }] := rfl

/-! ### inPush -/

@[simp] theorem inPush_params (s : State) (w : Word) : (s.inPush w).params = s.params := rfl
@[simp] theorem inPush_jobState (s : State) (w : Word) : (s.inPush w).jobState = s.jobState := rfl
@[simp] theorem inPush_cmdErr (s : State) (w : Word) : (s.inPush w).cmdErr = s.cmdErr := rfl
@[simp] theorem inPush_errCode (s : State) (w : Word) : (s.inPush w).errCode = s.errCode := rfl
@[simp] theorem inPush_produced (s : State) (w : Word) : (s.inPush w).produced = s.produced := rfl
@[simp] theorem inPush_dw (s : State) (w : Word) : (s.inPush w).dw = s.dw := rfl
@[simp] theorem inPush_dh (s : State) (w : Word) : (s.inPush w).dh = s.dh := rfl
@[simp] theorem inPush_leftWrap (s : State) (w : Word) : (s.inPush w).leftWrap = s.leftWrap := rfl
@[simp] theorem inPush_width (s : State) (w : Word) : (s.inPush w).width = s.width := rfl
@[simp] theorem inPush_height (s : State) (w : Word) : (s.inPush w).height = s.height := rfl
@[simp] theorem inPush_doneEn (s : State) (w : Word) : (s.inPush w).doneEn = s.doneEn := rfl
@[simp] theorem inPush_errEn (s : State) (w : Word) : (s.inPush w).errEn = s.errEn := rfl
@[simp] theorem inPush_cmdErrEn (s : State) (w : Word) : (s.inPush w).cmdErrEn = s.cmdErrEn := rfl
@[simp] theorem inPush_inRemain (s : State) (w : Word) : (s.inPush w).inRemain = s.inRemain := rfl
@[simp] theorem inPush_inq (s : State) (w : Word) : (s.inPush w).inq = s.inq ++ [w] := rfl
@[simp] theorem inPush_outq (s : State) (w : Word) : (s.inPush w).outq = s.outq := rfl
@[simp] theorem inPush_jw (s : State) (w : Word) : (s.inPush w).jw = s.jw := rfl
@[simp] theorem inPush_jh (s : State) (w : Word) : (s.inPush w).jh = s.jh := rfl
@[simp] theorem inPush_jdw (s : State) (w : Word) : (s.inPush w).jdw = s.jdw := rfl
@[simp] theorem inPush_jdh (s : State) (w : Word) : (s.inPush w).jdh = s.jdh := rfl
@[simp] theorem inPush_jwrap (s : State) (w : Word) : (s.inPush w).jwrap = s.jwrap := rfl
@[simp] theorem inPush_seq (s : State) (w : Word) : (s.inPush w).seq = s.seq := rfl
@[simp] theorem inPush_rowbuf (s : State) (w : Word) : (s.inPush w).rowbuf = s.rowbuf := rfl
@[simp] theorem inPush_freeCtr (s : State) (w : Word) : (s.inPush w).freeCtr = s.freeCtr := rfl
@[simp] theorem inPush_events (s : State) (w : Word) : (s.inPush w).events = s.events := rfl
@[simp] theorem inPush_trace (s : State) (w : Word) : (s.inPush w).trace = s.trace := rfl

/-! ### outPush -/

@[simp] theorem outPush_params (s : State) (b : Byte) (l : Bool) : (s.outPush b l).params = s.params := rfl
@[simp] theorem outPush_jobState (s : State) (b : Byte) (l : Bool) : (s.outPush b l).jobState = s.jobState := rfl
@[simp] theorem outPush_cmdErr (s : State) (b : Byte) (l : Bool) : (s.outPush b l).cmdErr = s.cmdErr := rfl
@[simp] theorem outPush_errCode (s : State) (b : Byte) (l : Bool) : (s.outPush b l).errCode = s.errCode := rfl
@[simp] theorem outPush_produced (s : State) (b : Byte) (l : Bool) : (s.outPush b l).produced = s.produced := rfl
@[simp] theorem outPush_dw (s : State) (b : Byte) (l : Bool) : (s.outPush b l).dw = s.dw := rfl
@[simp] theorem outPush_dh (s : State) (b : Byte) (l : Bool) : (s.outPush b l).dh = s.dh := rfl
@[simp] theorem outPush_leftWrap (s : State) (b : Byte) (l : Bool) : (s.outPush b l).leftWrap = s.leftWrap := rfl
@[simp] theorem outPush_width (s : State) (b : Byte) (l : Bool) : (s.outPush b l).width = s.width := rfl
@[simp] theorem outPush_height (s : State) (b : Byte) (l : Bool) : (s.outPush b l).height = s.height := rfl
@[simp] theorem outPush_doneEn (s : State) (b : Byte) (l : Bool) : (s.outPush b l).doneEn = s.doneEn := rfl
@[simp] theorem outPush_errEn (s : State) (b : Byte) (l : Bool) : (s.outPush b l).errEn = s.errEn := rfl
@[simp] theorem outPush_cmdErrEn (s : State) (b : Byte) (l : Bool) : (s.outPush b l).cmdErrEn = s.cmdErrEn := rfl
@[simp] theorem outPush_inRemain (s : State) (b : Byte) (l : Bool) : (s.outPush b l).inRemain = s.inRemain := rfl
@[simp] theorem outPush_inq (s : State) (b : Byte) (l : Bool) : (s.outPush b l).inq = s.inq := rfl
@[simp] theorem outPush_outq (s : State) (b : Byte) (l : Bool) : (s.outPush b l).outq = s.outq ++ [{ byte := b, last := l }] := rfl
@[simp] theorem outPush_jw (s : State) (b : Byte) (l : Bool) : (s.outPush b l).jw = s.jw := rfl
@[simp] theorem outPush_jh (s : State) (b : Byte) (l : Bool) : (s.outPush b l).jh = s.jh := rfl
@[simp] theorem outPush_jdw (s : State) (b : Byte) (l : Bool) : (s.outPush b l).jdw = s.jdw := rfl
@[simp] theorem outPush_jdh (s : State) (b : Byte) (l : Bool) : (s.outPush b l).jdh = s.jdh := rfl
@[simp] theorem outPush_jwrap (s : State) (b : Byte) (l : Bool) : (s.outPush b l).jwrap = s.jwrap := rfl
@[simp] theorem outPush_seq (s : State) (b : Byte) (l : Bool) : (s.outPush b l).seq = s.seq := rfl
@[simp] theorem outPush_rowbuf (s : State) (b : Byte) (l : Bool) : (s.outPush b l).rowbuf = s.rowbuf := rfl
@[simp] theorem outPush_freeCtr (s : State) (b : Byte) (l : Bool) : (s.outPush b l).freeCtr = s.freeCtr := rfl
@[simp] theorem outPush_events (s : State) (b : Byte) (l : Bool) : (s.outPush b l).events = s.events := rfl
@[simp] theorem outPush_trace (s : State) (b : Byte) (l : Bool) : (s.outPush b l).trace = s.trace := rfl

/-! ### unspecifyJob -/

@[simp] theorem unspecifyJob_params (s : State) : (s.unspecifyJob).params = s.params := rfl
@[simp] theorem unspecifyJob_jobState (s : State) : (s.unspecifyJob).jobState = s.jobState := rfl
@[simp] theorem unspecifyJob_cmdErr (s : State) : (s.unspecifyJob).cmdErr = s.cmdErr := rfl
@[simp] theorem unspecifyJob_errCode (s : State) : (s.unspecifyJob).errCode = s.errCode := rfl
@[simp] theorem unspecifyJob_produced (s : State) : (s.unspecifyJob).produced = s.produced := rfl
@[simp] theorem unspecifyJob_dw (s : State) : (s.unspecifyJob).dw = s.dw := rfl
@[simp] theorem unspecifyJob_dh (s : State) : (s.unspecifyJob).dh = s.dh := rfl
@[simp] theorem unspecifyJob_leftWrap (s : State) : (s.unspecifyJob).leftWrap = s.leftWrap := rfl
@[simp] theorem unspecifyJob_width (s : State) : (s.unspecifyJob).width = s.width := rfl
@[simp] theorem unspecifyJob_height (s : State) : (s.unspecifyJob).height = s.height := rfl
@[simp] theorem unspecifyJob_doneEn (s : State) : (s.unspecifyJob).doneEn = s.doneEn := rfl
@[simp] theorem unspecifyJob_errEn (s : State) : (s.unspecifyJob).errEn = s.errEn := rfl
@[simp] theorem unspecifyJob_cmdErrEn (s : State) : (s.unspecifyJob).cmdErrEn = s.cmdErrEn := rfl
@[simp] theorem unspecifyJob_inRemain (s : State) : (s.unspecifyJob).inRemain = s.inRemain := rfl
@[simp] theorem unspecifyJob_inq (s : State) : (s.unspecifyJob).inq = s.inq := rfl
@[simp] theorem unspecifyJob_outq (s : State) : (s.unspecifyJob).outq = s.outq := rfl
@[simp] theorem unspecifyJob_jw (s : State) : (s.unspecifyJob).jw = Config.unspecifiedJW s.freeCtr := rfl
@[simp] theorem unspecifyJob_jh (s : State) : (s.unspecifyJob).jh = Config.unspecifiedJH s.freeCtr := rfl
@[simp] theorem unspecifyJob_jdw (s : State) : (s.unspecifyJob).jdw = Config.unspecifiedJDW s.freeCtr := rfl
@[simp] theorem unspecifyJob_jdh (s : State) : (s.unspecifyJob).jdh = Config.unspecifiedJDH s.freeCtr := rfl
@[simp] theorem unspecifyJob_jwrap (s : State) : (s.unspecifyJob).jwrap = Config.unspecifiedJWRAP s.freeCtr := rfl
@[simp] theorem unspecifyJob_seq (s : State) : (s.unspecifyJob).seq = Config.unspecifiedSeq s.freeCtr := rfl
@[simp] theorem unspecifyJob_rowbuf (s : State) : (s.unspecifyJob).rowbuf = s.rowbuf := rfl
@[simp] theorem unspecifyJob_freeCtr (s : State) : (s.unspecifyJob).freeCtr = s.freeCtr + 1 := rfl
@[simp] theorem unspecifyJob_events (s : State) : (s.unspecifyJob).events = s.events := rfl
@[simp] theorem unspecifyJob_trace (s : State) : (s.unspecifyJob).trace = s.trace := rfl

/-! ### setCmdErr -/

@[simp] theorem setCmdErr_params (s : State) : (s.setCmdErr).params = s.params := rfl
@[simp] theorem setCmdErr_jobState (s : State) : (s.setCmdErr).jobState = s.jobState := rfl
@[simp] theorem setCmdErr_cmdErr (s : State) : (s.setCmdErr).cmdErr = true := rfl
@[simp] theorem setCmdErr_errCode (s : State) : (s.setCmdErr).errCode = s.errCode := rfl
@[simp] theorem setCmdErr_produced (s : State) : (s.setCmdErr).produced = s.produced := rfl
@[simp] theorem setCmdErr_dw (s : State) : (s.setCmdErr).dw = s.dw := rfl
@[simp] theorem setCmdErr_dh (s : State) : (s.setCmdErr).dh = s.dh := rfl
@[simp] theorem setCmdErr_leftWrap (s : State) : (s.setCmdErr).leftWrap = s.leftWrap := rfl
@[simp] theorem setCmdErr_width (s : State) : (s.setCmdErr).width = s.width := rfl
@[simp] theorem setCmdErr_height (s : State) : (s.setCmdErr).height = s.height := rfl
@[simp] theorem setCmdErr_doneEn (s : State) : (s.setCmdErr).doneEn = s.doneEn := rfl
@[simp] theorem setCmdErr_errEn (s : State) : (s.setCmdErr).errEn = s.errEn := rfl
@[simp] theorem setCmdErr_cmdErrEn (s : State) : (s.setCmdErr).cmdErrEn = s.cmdErrEn := rfl
@[simp] theorem setCmdErr_inRemain (s : State) : (s.setCmdErr).inRemain = s.inRemain := rfl
@[simp] theorem setCmdErr_inq (s : State) : (s.setCmdErr).inq = s.inq := rfl
@[simp] theorem setCmdErr_outq (s : State) : (s.setCmdErr).outq = s.outq := rfl
@[simp] theorem setCmdErr_jw (s : State) : (s.setCmdErr).jw = s.jw := rfl
@[simp] theorem setCmdErr_jh (s : State) : (s.setCmdErr).jh = s.jh := rfl
@[simp] theorem setCmdErr_jdw (s : State) : (s.setCmdErr).jdw = s.jdw := rfl
@[simp] theorem setCmdErr_jdh (s : State) : (s.setCmdErr).jdh = s.jdh := rfl
@[simp] theorem setCmdErr_jwrap (s : State) : (s.setCmdErr).jwrap = s.jwrap := rfl
@[simp] theorem setCmdErr_seq (s : State) : (s.setCmdErr).seq = s.seq := rfl
@[simp] theorem setCmdErr_rowbuf (s : State) : (s.setCmdErr).rowbuf = s.rowbuf := rfl
@[simp] theorem setCmdErr_freeCtr (s : State) : (s.setCmdErr).freeCtr = s.freeCtr := rfl
@[simp] theorem setCmdErr_events (s : State) : (s.setCmdErr).events = s.events := rfl
@[simp] theorem setCmdErr_trace (s : State) : (s.setCmdErr).trace = s.trace := rfl

/-! ### advance -/

@[simp] theorem advance_params (s : State) : (s.advance).params = s.params := rfl
@[simp] theorem advance_jobState (s : State) : (s.advance).jobState = s.jobState := rfl
@[simp] theorem advance_cmdErr (s : State) : (s.advance).cmdErr = s.cmdErr := rfl
@[simp] theorem advance_errCode (s : State) : (s.advance).errCode = s.errCode := rfl
@[simp] theorem advance_produced (s : State) : (s.advance).produced = s.produced := rfl
@[simp] theorem advance_dw (s : State) : (s.advance).dw = s.dw := rfl
@[simp] theorem advance_dh (s : State) : (s.advance).dh = s.dh := rfl
@[simp] theorem advance_leftWrap (s : State) : (s.advance).leftWrap = s.leftWrap := rfl
@[simp] theorem advance_width (s : State) : (s.advance).width = s.width := rfl
@[simp] theorem advance_height (s : State) : (s.advance).height = s.height := rfl
@[simp] theorem advance_doneEn (s : State) : (s.advance).doneEn = s.doneEn := rfl
@[simp] theorem advance_errEn (s : State) : (s.advance).errEn = s.errEn := rfl
@[simp] theorem advance_cmdErrEn (s : State) : (s.advance).cmdErrEn = s.cmdErrEn := rfl
@[simp] theorem advance_inRemain (s : State) : (s.advance).inRemain = s.inRemain := rfl
@[simp] theorem advance_inq (s : State) : (s.advance).inq = s.inq := rfl
@[simp] theorem advance_outq (s : State) : (s.advance).outq = s.outq := rfl
@[simp] theorem advance_jw (s : State) : (s.advance).jw = s.jw := rfl
@[simp] theorem advance_jh (s : State) : (s.advance).jh = s.jh := rfl
@[simp] theorem advance_jdw (s : State) : (s.advance).jdw = s.jdw := rfl
@[simp] theorem advance_jdh (s : State) : (s.advance).jdh = s.jdh := rfl
@[simp] theorem advance_jwrap (s : State) : (s.advance).jwrap = s.jwrap := rfl
@[simp] theorem advance_seq (s : State) : (s.advance).seq = s.seq + 1 := rfl
@[simp] theorem advance_rowbuf (s : State) : (s.advance).rowbuf = s.rowbuf := rfl
@[simp] theorem advance_freeCtr (s : State) : (s.advance).freeCtr = s.freeCtr := rfl
@[simp] theorem advance_events (s : State) : (s.advance).events = s.events := rfl
@[simp] theorem advance_trace (s : State) : (s.advance).trace = s.trace := rfl

/-! ### produce -/

@[simp] theorem produce_params (s : State) (b : Byte) : (s.produce b).params = s.params := rfl
@[simp] theorem produce_jobState (s : State) (b : Byte) : (s.produce b).jobState = s.jobState := rfl
@[simp] theorem produce_cmdErr (s : State) (b : Byte) : (s.produce b).cmdErr = s.cmdErr := rfl
@[simp] theorem produce_errCode (s : State) (b : Byte) : (s.produce b).errCode = s.errCode := rfl
@[simp] theorem produce_produced (s : State) (b : Byte) : (s.produce b).produced = (s.produced || s.isLast) := rfl
@[simp] theorem produce_dw (s : State) (b : Byte) : (s.produce b).dw = s.dw := rfl
@[simp] theorem produce_dh (s : State) (b : Byte) : (s.produce b).dh = s.dh := rfl
@[simp] theorem produce_leftWrap (s : State) (b : Byte) : (s.produce b).leftWrap = s.leftWrap := rfl
@[simp] theorem produce_width (s : State) (b : Byte) : (s.produce b).width = s.width := rfl
@[simp] theorem produce_height (s : State) (b : Byte) : (s.produce b).height = s.height := rfl
@[simp] theorem produce_doneEn (s : State) (b : Byte) : (s.produce b).doneEn = s.doneEn := rfl
@[simp] theorem produce_errEn (s : State) (b : Byte) : (s.produce b).errEn = s.errEn := rfl
@[simp] theorem produce_cmdErrEn (s : State) (b : Byte) : (s.produce b).cmdErrEn = s.cmdErrEn := rfl
@[simp] theorem produce_inRemain (s : State) (b : Byte) : (s.produce b).inRemain = s.inRemain := rfl
@[simp] theorem produce_inq (s : State) (b : Byte) : (s.produce b).inq = s.inq := rfl
@[simp] theorem produce_outq (s : State) (b : Byte) : (s.produce b).outq = s.outq ++ [{ byte := b, last := s.isLast }] := rfl
@[simp] theorem produce_jw (s : State) (b : Byte) : (s.produce b).jw = s.jw := rfl
@[simp] theorem produce_jh (s : State) (b : Byte) : (s.produce b).jh = s.jh := rfl
@[simp] theorem produce_jdw (s : State) (b : Byte) : (s.produce b).jdw = s.jdw := rfl
@[simp] theorem produce_jdh (s : State) (b : Byte) : (s.produce b).jdh = s.jdh := rfl
@[simp] theorem produce_jwrap (s : State) (b : Byte) : (s.produce b).jwrap = s.jwrap := rfl
@[simp] theorem produce_seq (s : State) (b : Byte) : (s.produce b).seq = s.seq := rfl
@[simp] theorem produce_rowbuf (s : State) (b : Byte) : (s.produce b).rowbuf = s.rowbuf := rfl
@[simp] theorem produce_freeCtr (s : State) (b : Byte) : (s.produce b).freeCtr = s.freeCtr := rfl
@[simp] theorem produce_events (s : State) (b : Byte) : (s.produce b).events = s.events := rfl
@[simp] theorem produce_trace (s : State) (b : Byte) : (s.produce b).trace = s.trace := rfl

/-! ### beginJob -/

@[simp] theorem beginJob_params (s : State) : (s.beginJob).params = s.params := rfl
@[simp] theorem beginJob_jobState (s : State) : (s.beginJob).jobState = .run := rfl
@[simp] theorem beginJob_cmdErr (s : State) : (s.beginJob).cmdErr = s.cmdErr := rfl
@[simp] theorem beginJob_errCode (s : State) : (s.beginJob).errCode = s.errCode := rfl
@[simp] theorem beginJob_produced (s : State) : (s.beginJob).produced = false := rfl
@[simp] theorem beginJob_dw (s : State) : (s.beginJob).dw = s.dw := rfl
@[simp] theorem beginJob_dh (s : State) : (s.beginJob).dh = s.dh := rfl
@[simp] theorem beginJob_leftWrap (s : State) : (s.beginJob).leftWrap = s.leftWrap := rfl
@[simp] theorem beginJob_width (s : State) : (s.beginJob).width = s.width := rfl
@[simp] theorem beginJob_height (s : State) : (s.beginJob).height = s.height := rfl
@[simp] theorem beginJob_doneEn (s : State) : (s.beginJob).doneEn = s.doneEn := rfl
@[simp] theorem beginJob_errEn (s : State) : (s.beginJob).errEn = s.errEn := rfl
@[simp] theorem beginJob_cmdErrEn (s : State) : (s.beginJob).cmdErrEn = s.cmdErrEn := rfl
@[simp] theorem beginJob_inRemain (s : State) : (s.beginJob).inRemain = BitVec.ofNat 32 (s.width.toNat * s.height.toNat / 4) := rfl
@[simp] theorem beginJob_inq (s : State) : (s.beginJob).inq = s.inq := rfl
@[simp] theorem beginJob_outq (s : State) : (s.beginJob).outq = s.outq := rfl
@[simp] theorem beginJob_jw (s : State) : (s.beginJob).jw = s.width := rfl
@[simp] theorem beginJob_jh (s : State) : (s.beginJob).jh = s.height := rfl
@[simp] theorem beginJob_jdw (s : State) : (s.beginJob).jdw = s.dw := rfl
@[simp] theorem beginJob_jdh (s : State) : (s.beginJob).jdh = s.dh := rfl
@[simp] theorem beginJob_jwrap (s : State) : (s.beginJob).jwrap = s.leftWrap := rfl
@[simp] theorem beginJob_seq (s : State) : (s.beginJob).seq = 0 := rfl
@[simp] theorem beginJob_rowbuf (s : State) : (s.beginJob).rowbuf = [] := rfl
@[simp] theorem beginJob_freeCtr (s : State) : (s.beginJob).freeCtr = s.freeCtr := rfl
@[simp] theorem beginJob_events (s : State) : (s.beginJob).events = s.events := rfl
@[simp] theorem beginJob_trace (s : State) : (s.beginJob).trace = s.trace := rfl

/-! ### abortJob -/

@[simp] theorem abortJob_params (s : State) : (s.abortJob).params = s.params := rfl
@[simp] theorem abortJob_jobState (s : State) : (s.abortJob).jobState = .idle := rfl
@[simp] theorem abortJob_cmdErr (s : State) : (s.abortJob).cmdErr = s.cmdErr := rfl
@[simp] theorem abortJob_errCode (s : State) : (s.abortJob).errCode = .none := rfl
@[simp] theorem abortJob_produced (s : State) : (s.abortJob).produced = false := rfl
@[simp] theorem abortJob_dw (s : State) : (s.abortJob).dw = s.dw := rfl
@[simp] theorem abortJob_dh (s : State) : (s.abortJob).dh = s.dh := rfl
@[simp] theorem abortJob_leftWrap (s : State) : (s.abortJob).leftWrap = s.leftWrap := rfl
@[simp] theorem abortJob_width (s : State) : (s.abortJob).width = s.width := rfl
@[simp] theorem abortJob_height (s : State) : (s.abortJob).height = s.height := rfl
@[simp] theorem abortJob_doneEn (s : State) : (s.abortJob).doneEn = s.doneEn := rfl
@[simp] theorem abortJob_errEn (s : State) : (s.abortJob).errEn = s.errEn := rfl
@[simp] theorem abortJob_cmdErrEn (s : State) : (s.abortJob).cmdErrEn = s.cmdErrEn := rfl
@[simp] theorem abortJob_inRemain (s : State) : (s.abortJob).inRemain = 0#32 := rfl
@[simp] theorem abortJob_inq (s : State) : (s.abortJob).inq = [] := rfl
@[simp] theorem abortJob_outq (s : State) : (s.abortJob).outq = [] := rfl
@[simp] theorem abortJob_jw (s : State) : (s.abortJob).jw = Config.unspecifiedJW s.freeCtr := rfl
@[simp] theorem abortJob_jh (s : State) : (s.abortJob).jh = Config.unspecifiedJH s.freeCtr := rfl
@[simp] theorem abortJob_jdw (s : State) : (s.abortJob).jdw = Config.unspecifiedJDW s.freeCtr := rfl
@[simp] theorem abortJob_jdh (s : State) : (s.abortJob).jdh = Config.unspecifiedJDH s.freeCtr := rfl
@[simp] theorem abortJob_jwrap (s : State) : (s.abortJob).jwrap = Config.unspecifiedJWRAP s.freeCtr := rfl
@[simp] theorem abortJob_seq (s : State) : (s.abortJob).seq = Config.unspecifiedSeq s.freeCtr := rfl
@[simp] theorem abortJob_rowbuf (s : State) : (s.abortJob).rowbuf = [] := rfl
@[simp] theorem abortJob_freeCtr (s : State) : (s.abortJob).freeCtr = s.freeCtr + 1 := rfl
@[simp] theorem abortJob_events (s : State) : (s.abortJob).events = s.events := rfl
@[simp] theorem abortJob_trace (s : State) : (s.abortJob).trace = s.trace := rfl

/-! ### resetBlock -/

@[simp] theorem resetBlock_params (s : State) : (s.resetBlock).params = s.params := rfl
@[simp] theorem resetBlock_jobState (s : State) : (s.resetBlock).jobState = .idle := rfl
@[simp] theorem resetBlock_cmdErr (s : State) : (s.resetBlock).cmdErr = false := rfl
@[simp] theorem resetBlock_errCode (s : State) : (s.resetBlock).errCode = .none := rfl
@[simp] theorem resetBlock_produced (s : State) : (s.resetBlock).produced = false := rfl
@[simp] theorem resetBlock_dw (s : State) : (s.resetBlock).dw = false := rfl
@[simp] theorem resetBlock_dh (s : State) : (s.resetBlock).dh = false := rfl
@[simp] theorem resetBlock_leftWrap (s : State) : (s.resetBlock).leftWrap = false := rfl
@[simp] theorem resetBlock_width (s : State) : (s.resetBlock).width = 384#32 := rfl
@[simp] theorem resetBlock_height (s : State) : (s.resetBlock).height = 0#32 := rfl
@[simp] theorem resetBlock_doneEn (s : State) : (s.resetBlock).doneEn = false := rfl
@[simp] theorem resetBlock_errEn (s : State) : (s.resetBlock).errEn = false := rfl
@[simp] theorem resetBlock_cmdErrEn (s : State) : (s.resetBlock).cmdErrEn = false := rfl
@[simp] theorem resetBlock_inRemain (s : State) : (s.resetBlock).inRemain = 0#32 := rfl
@[simp] theorem resetBlock_inq (s : State) : (s.resetBlock).inq = [] := rfl
@[simp] theorem resetBlock_outq (s : State) : (s.resetBlock).outq = [] := rfl
@[simp] theorem resetBlock_jw (s : State) : (s.resetBlock).jw = Config.unspecifiedJW s.freeCtr := rfl
@[simp] theorem resetBlock_jh (s : State) : (s.resetBlock).jh = Config.unspecifiedJH s.freeCtr := rfl
@[simp] theorem resetBlock_jdw (s : State) : (s.resetBlock).jdw = Config.unspecifiedJDW s.freeCtr := rfl
@[simp] theorem resetBlock_jdh (s : State) : (s.resetBlock).jdh = Config.unspecifiedJDH s.freeCtr := rfl
@[simp] theorem resetBlock_jwrap (s : State) : (s.resetBlock).jwrap = Config.unspecifiedJWRAP s.freeCtr := rfl
@[simp] theorem resetBlock_seq (s : State) : (s.resetBlock).seq = Config.unspecifiedSeq s.freeCtr := rfl
@[simp] theorem resetBlock_rowbuf (s : State) : (s.resetBlock).rowbuf = [] := rfl
@[simp] theorem resetBlock_freeCtr (s : State) : (s.resetBlock).freeCtr = s.freeCtr + 1 := rfl
@[simp] theorem resetBlock_events (s : State) : (s.resetBlock).events = s.events := rfl
@[simp] theorem resetBlock_trace (s : State) : (s.resetBlock).trace = s.trace := rfl

/-! ### leaveRun, raiseError, clearErrors, popOut -/

@[simp] theorem leaveRun_params (s : State) : s.leaveRun.params = s.params := by
  unfold leaveRun; split <;> rfl
@[simp] theorem leaveRun_jobState (s : State) : s.leaveRun.jobState = s.jobState := by
  unfold leaveRun; split <;> rfl
@[simp] theorem leaveRun_cmdErr (s : State) : s.leaveRun.cmdErr = s.cmdErr := by
  unfold leaveRun; split <;> rfl
@[simp] theorem leaveRun_errCode (s : State) : s.leaveRun.errCode = s.errCode := by
  unfold leaveRun; split <;> rfl
@[simp] theorem leaveRun_produced (s : State) : s.leaveRun.produced = s.produced := by
  unfold leaveRun; split <;> rfl
@[simp] theorem leaveRun_dw (s : State) : s.leaveRun.dw = s.dw := by
  unfold leaveRun; split <;> rfl
@[simp] theorem leaveRun_dh (s : State) : s.leaveRun.dh = s.dh := by
  unfold leaveRun; split <;> rfl
@[simp] theorem leaveRun_leftWrap (s : State) : s.leaveRun.leftWrap = s.leftWrap := by
  unfold leaveRun; split <;> rfl
@[simp] theorem leaveRun_width (s : State) : s.leaveRun.width = s.width := by
  unfold leaveRun; split <;> rfl
@[simp] theorem leaveRun_height (s : State) : s.leaveRun.height = s.height := by
  unfold leaveRun; split <;> rfl
@[simp] theorem leaveRun_doneEn (s : State) : s.leaveRun.doneEn = s.doneEn := by
  unfold leaveRun; split <;> rfl
@[simp] theorem leaveRun_errEn (s : State) : s.leaveRun.errEn = s.errEn := by
  unfold leaveRun; split <;> rfl
@[simp] theorem leaveRun_cmdErrEn (s : State) : s.leaveRun.cmdErrEn = s.cmdErrEn := by
  unfold leaveRun; split <;> rfl
@[simp] theorem leaveRun_inRemain (s : State) : s.leaveRun.inRemain = s.inRemain := by
  unfold leaveRun; split <;> rfl
@[simp] theorem leaveRun_inq (s : State) : s.leaveRun.inq = s.inq := by
  unfold leaveRun; split <;> rfl
@[simp] theorem leaveRun_outq (s : State) : s.leaveRun.outq = s.outq := by
  unfold leaveRun; split <;> rfl
theorem leaveRun_jw (s : State) : s.leaveRun.jw = if s.jobState = .run then Config.unspecifiedJW s.freeCtr else s.jw := by
  unfold leaveRun; split <;> rfl
theorem leaveRun_jh (s : State) : s.leaveRun.jh = if s.jobState = .run then Config.unspecifiedJH s.freeCtr else s.jh := by
  unfold leaveRun; split <;> rfl
theorem leaveRun_jdw (s : State) : s.leaveRun.jdw = if s.jobState = .run then Config.unspecifiedJDW s.freeCtr else s.jdw := by
  unfold leaveRun; split <;> rfl
theorem leaveRun_jdh (s : State) : s.leaveRun.jdh = if s.jobState = .run then Config.unspecifiedJDH s.freeCtr else s.jdh := by
  unfold leaveRun; split <;> rfl
theorem leaveRun_jwrap (s : State) : s.leaveRun.jwrap = if s.jobState = .run then Config.unspecifiedJWRAP s.freeCtr else s.jwrap := by
  unfold leaveRun; split <;> rfl
theorem leaveRun_seq (s : State) : s.leaveRun.seq = if s.jobState = .run then Config.unspecifiedSeq s.freeCtr else s.seq := by
  unfold leaveRun; split <;> rfl
@[simp] theorem leaveRun_rowbuf (s : State) : s.leaveRun.rowbuf = s.rowbuf := by
  unfold leaveRun; split <;> rfl
theorem leaveRun_freeCtr (s : State) : s.leaveRun.freeCtr = if s.jobState = .run then s.freeCtr + 1 else s.freeCtr := by
  unfold leaveRun; split <;> rfl
@[simp] theorem leaveRun_events (s : State) : s.leaveRun.events = s.events := by
  unfold leaveRun; split <;> rfl
@[simp] theorem leaveRun_trace (s : State) : s.leaveRun.trace = s.trace := by
  unfold leaveRun; split <;> rfl
@[simp] theorem raiseError_params (s : State) (c : ErrCode) : (s.raiseError c).params = s.params := leaveRun_params s
@[simp] theorem raiseError_jobState (s : State) (c : ErrCode) : (s.raiseError c).jobState = .error := rfl
@[simp] theorem raiseError_cmdErr (s : State) (c : ErrCode) : (s.raiseError c).cmdErr = s.cmdErr := leaveRun_cmdErr s
@[simp] theorem raiseError_errCode (s : State) (c : ErrCode) : (s.raiseError c).errCode = c := rfl
@[simp] theorem raiseError_produced (s : State) (c : ErrCode) : (s.raiseError c).produced = s.produced := leaveRun_produced s
@[simp] theorem raiseError_dw (s : State) (c : ErrCode) : (s.raiseError c).dw = s.dw := leaveRun_dw s
@[simp] theorem raiseError_dh (s : State) (c : ErrCode) : (s.raiseError c).dh = s.dh := leaveRun_dh s
@[simp] theorem raiseError_leftWrap (s : State) (c : ErrCode) : (s.raiseError c).leftWrap = s.leftWrap := leaveRun_leftWrap s
@[simp] theorem raiseError_width (s : State) (c : ErrCode) : (s.raiseError c).width = s.width := leaveRun_width s
@[simp] theorem raiseError_height (s : State) (c : ErrCode) : (s.raiseError c).height = s.height := leaveRun_height s
@[simp] theorem raiseError_doneEn (s : State) (c : ErrCode) : (s.raiseError c).doneEn = s.doneEn := leaveRun_doneEn s
@[simp] theorem raiseError_errEn (s : State) (c : ErrCode) : (s.raiseError c).errEn = s.errEn := leaveRun_errEn s
@[simp] theorem raiseError_cmdErrEn (s : State) (c : ErrCode) : (s.raiseError c).cmdErrEn = s.cmdErrEn := leaveRun_cmdErrEn s
@[simp] theorem raiseError_inRemain (s : State) (c : ErrCode) : (s.raiseError c).inRemain = 0#32 := rfl
@[simp] theorem raiseError_inq (s : State) (c : ErrCode) : (s.raiseError c).inq = [] := rfl
@[simp] theorem raiseError_outq (s : State) (c : ErrCode) : (s.raiseError c).outq = [] := rfl
@[simp] theorem raiseError_jw (s : State) (c : ErrCode) : (s.raiseError c).jw = s.leaveRun.jw := rfl
@[simp] theorem raiseError_jh (s : State) (c : ErrCode) : (s.raiseError c).jh = s.leaveRun.jh := rfl
@[simp] theorem raiseError_jdw (s : State) (c : ErrCode) : (s.raiseError c).jdw = s.leaveRun.jdw := rfl
@[simp] theorem raiseError_jdh (s : State) (c : ErrCode) : (s.raiseError c).jdh = s.leaveRun.jdh := rfl
@[simp] theorem raiseError_jwrap (s : State) (c : ErrCode) : (s.raiseError c).jwrap = s.leaveRun.jwrap := rfl
@[simp] theorem raiseError_seq (s : State) (c : ErrCode) : (s.raiseError c).seq = s.leaveRun.seq := rfl
@[simp] theorem raiseError_rowbuf (s : State) (c : ErrCode) : (s.raiseError c).rowbuf = [] := rfl
@[simp] theorem raiseError_freeCtr (s : State) (c : ErrCode) : (s.raiseError c).freeCtr = s.leaveRun.freeCtr := rfl
@[simp] theorem raiseError_events (s : State) (c : ErrCode) : (s.raiseError c).events = s.events := leaveRun_events s
@[simp] theorem raiseError_trace (s : State) (c : ErrCode) : (s.raiseError c).trace = s.trace := leaveRun_trace s
@[simp] theorem clearErrors_params (s : State) : s.clearErrors.params = s.params := by
  unfold clearErrors; split <;> rfl
theorem clearErrors_jobState (s : State) : s.clearErrors.jobState = if s.jobState = .done ∨ s.jobState = .error then .idle else s.jobState := by
  unfold clearErrors; split <;> rfl
@[simp] theorem clearErrors_cmdErr (s : State) : s.clearErrors.cmdErr = false := by
  unfold clearErrors; split <;> rfl
theorem clearErrors_errCode (s : State) : s.clearErrors.errCode = if s.jobState = .done ∨ s.jobState = .error then .none else s.errCode := by
  unfold clearErrors; split <;> rfl
theorem clearErrors_produced (s : State) : s.clearErrors.produced = if s.jobState = .done ∨ s.jobState = .error then false else s.produced := by
  unfold clearErrors; split <;> rfl
@[simp] theorem clearErrors_dw (s : State) : s.clearErrors.dw = s.dw := by
  unfold clearErrors; split <;> rfl
@[simp] theorem clearErrors_dh (s : State) : s.clearErrors.dh = s.dh := by
  unfold clearErrors; split <;> rfl
@[simp] theorem clearErrors_leftWrap (s : State) : s.clearErrors.leftWrap = s.leftWrap := by
  unfold clearErrors; split <;> rfl
@[simp] theorem clearErrors_width (s : State) : s.clearErrors.width = s.width := by
  unfold clearErrors; split <;> rfl
@[simp] theorem clearErrors_height (s : State) : s.clearErrors.height = s.height := by
  unfold clearErrors; split <;> rfl
@[simp] theorem clearErrors_doneEn (s : State) : s.clearErrors.doneEn = s.doneEn := by
  unfold clearErrors; split <;> rfl
@[simp] theorem clearErrors_errEn (s : State) : s.clearErrors.errEn = s.errEn := by
  unfold clearErrors; split <;> rfl
@[simp] theorem clearErrors_cmdErrEn (s : State) : s.clearErrors.cmdErrEn = s.cmdErrEn := by
  unfold clearErrors; split <;> rfl
@[simp] theorem clearErrors_inRemain (s : State) : s.clearErrors.inRemain = s.inRemain := by
  unfold clearErrors; split <;> rfl
@[simp] theorem clearErrors_inq (s : State) : s.clearErrors.inq = s.inq := by
  unfold clearErrors; split <;> rfl
@[simp] theorem clearErrors_outq (s : State) : s.clearErrors.outq = s.outq := by
  unfold clearErrors; split <;> rfl
@[simp] theorem clearErrors_jw (s : State) : s.clearErrors.jw = s.jw := by
  unfold clearErrors; split <;> rfl
@[simp] theorem clearErrors_jh (s : State) : s.clearErrors.jh = s.jh := by
  unfold clearErrors; split <;> rfl
@[simp] theorem clearErrors_jdw (s : State) : s.clearErrors.jdw = s.jdw := by
  unfold clearErrors; split <;> rfl
@[simp] theorem clearErrors_jdh (s : State) : s.clearErrors.jdh = s.jdh := by
  unfold clearErrors; split <;> rfl
@[simp] theorem clearErrors_jwrap (s : State) : s.clearErrors.jwrap = s.jwrap := by
  unfold clearErrors; split <;> rfl
@[simp] theorem clearErrors_seq (s : State) : s.clearErrors.seq = s.seq := by
  unfold clearErrors; split <;> rfl
@[simp] theorem clearErrors_rowbuf (s : State) : s.clearErrors.rowbuf = s.rowbuf := by
  unfold clearErrors; split <;> rfl
@[simp] theorem clearErrors_freeCtr (s : State) : s.clearErrors.freeCtr = s.freeCtr := by
  unfold clearErrors; split <;> rfl
@[simp] theorem clearErrors_events (s : State) : s.clearErrors.events = s.events := by
  unfold clearErrors; split <;> rfl
@[simp] theorem clearErrors_trace (s : State) : s.clearErrors.trace = s.trace := by
  unfold clearErrors; split <;> rfl
@[simp] theorem popOut_params (s : State) (e : OutEntry) (rest : List OutEntry) : (s.popOut e rest).params = s.params := by
  unfold popOut; split <;> simp
theorem popOut_jobState (s : State) (e : OutEntry) (rest : List OutEntry) : (s.popOut e rest).jobState = if e.last then .done else s.jobState := by
  unfold popOut; split <;> simp
@[simp] theorem popOut_cmdErr (s : State) (e : OutEntry) (rest : List OutEntry) : (s.popOut e rest).cmdErr = s.cmdErr := by
  unfold popOut; split <;> simp
@[simp] theorem popOut_errCode (s : State) (e : OutEntry) (rest : List OutEntry) : (s.popOut e rest).errCode = s.errCode := by
  unfold popOut; split <;> simp
@[simp] theorem popOut_produced (s : State) (e : OutEntry) (rest : List OutEntry) : (s.popOut e rest).produced = s.produced := by
  unfold popOut; split <;> simp
@[simp] theorem popOut_dw (s : State) (e : OutEntry) (rest : List OutEntry) : (s.popOut e rest).dw = s.dw := by
  unfold popOut; split <;> simp
@[simp] theorem popOut_dh (s : State) (e : OutEntry) (rest : List OutEntry) : (s.popOut e rest).dh = s.dh := by
  unfold popOut; split <;> simp
@[simp] theorem popOut_leftWrap (s : State) (e : OutEntry) (rest : List OutEntry) : (s.popOut e rest).leftWrap = s.leftWrap := by
  unfold popOut; split <;> simp
@[simp] theorem popOut_width (s : State) (e : OutEntry) (rest : List OutEntry) : (s.popOut e rest).width = s.width := by
  unfold popOut; split <;> simp
@[simp] theorem popOut_height (s : State) (e : OutEntry) (rest : List OutEntry) : (s.popOut e rest).height = s.height := by
  unfold popOut; split <;> simp
@[simp] theorem popOut_doneEn (s : State) (e : OutEntry) (rest : List OutEntry) : (s.popOut e rest).doneEn = s.doneEn := by
  unfold popOut; split <;> simp
@[simp] theorem popOut_errEn (s : State) (e : OutEntry) (rest : List OutEntry) : (s.popOut e rest).errEn = s.errEn := by
  unfold popOut; split <;> simp
@[simp] theorem popOut_cmdErrEn (s : State) (e : OutEntry) (rest : List OutEntry) : (s.popOut e rest).cmdErrEn = s.cmdErrEn := by
  unfold popOut; split <;> simp
@[simp] theorem popOut_inRemain (s : State) (e : OutEntry) (rest : List OutEntry) : (s.popOut e rest).inRemain = s.inRemain := by
  unfold popOut; split <;> simp
@[simp] theorem popOut_inq (s : State) (e : OutEntry) (rest : List OutEntry) : (s.popOut e rest).inq = s.inq := by
  unfold popOut; split <;> simp
@[simp] theorem popOut_outq (s : State) (e : OutEntry) (rest : List OutEntry) : (s.popOut e rest).outq = rest := by
  unfold popOut; split <;> simp
theorem popOut_jw (s : State) (e : OutEntry) (rest : List OutEntry) : (s.popOut e rest).jw = if e.last then s.leaveRun.jw else s.jw := by
  unfold popOut; split <;> simp
theorem popOut_jh (s : State) (e : OutEntry) (rest : List OutEntry) : (s.popOut e rest).jh = if e.last then s.leaveRun.jh else s.jh := by
  unfold popOut; split <;> simp
theorem popOut_jdw (s : State) (e : OutEntry) (rest : List OutEntry) : (s.popOut e rest).jdw = if e.last then s.leaveRun.jdw else s.jdw := by
  unfold popOut; split <;> simp
theorem popOut_jdh (s : State) (e : OutEntry) (rest : List OutEntry) : (s.popOut e rest).jdh = if e.last then s.leaveRun.jdh else s.jdh := by
  unfold popOut; split <;> simp
theorem popOut_jwrap (s : State) (e : OutEntry) (rest : List OutEntry) : (s.popOut e rest).jwrap = if e.last then s.leaveRun.jwrap else s.jwrap := by
  unfold popOut; split <;> simp
theorem popOut_seq (s : State) (e : OutEntry) (rest : List OutEntry) : (s.popOut e rest).seq = if e.last then s.leaveRun.seq else s.seq := by
  unfold popOut; split <;> simp
@[simp] theorem popOut_rowbuf (s : State) (e : OutEntry) (rest : List OutEntry) : (s.popOut e rest).rowbuf = s.rowbuf := by
  unfold popOut; split <;> simp
theorem popOut_freeCtr (s : State) (e : OutEntry) (rest : List OutEntry) : (s.popOut e rest).freeCtr = if e.last then s.leaveRun.freeCtr else s.freeCtr := by
  unfold popOut; split <;> simp
@[simp] theorem popOut_events (s : State) (e : OutEntry) (rest : List OutEntry) : (s.popOut e rest).events = s.events := by
  unfold popOut; split <;> simp
@[simp] theorem popOut_trace (s : State) (e : OutEntry) (rest : List OutEntry) : (s.popOut e rest).trace = s.trace := by
  unfold popOut; split <;> simp

/-! ### Functions of the state under an observation -/

@[simp] theorem observe_irq (s : State) (sel : BitVec 7) (r : Reply) : (s.observe sel r).irq = s.irq := rfl
@[simp] theorem observe_prog (s : State) (sel : BitVec 7) (r : Reply) : (s.observe sel r).prog = s.prog := rfl
@[simp] theorem observe_isLast (s : State) (sel : BitVec 7) (r : Reply) : (s.observe sel r).isLast = s.isLast := rfl
@[simp] theorem observe_currentOp (s : State) (sel : BitVec 7) (r : Reply) :
    (s.observe sel r).currentOp = s.currentOp := rfl
@[simp] theorem observe_statusWord (s : State) (sel : BitVec 7) (r : Reply) :
    (s.observe sel r).statusWord = s.statusWord := rfl
@[simp] theorem observe_configWord (s : State) (sel : BitVec 7) (r : Reply) :
    (s.observe sel r).configWord = s.configWord := rfl
@[simp] theorem observe_irqEnWord (s : State) (sel : BitVec 7) (r : Reply) :
    (s.observe sel r).irqEnWord = s.irqEnWord := rfl
@[simp] theorem observe_levelsWord (s : State) (sel : BitVec 7) (r : Reply) :
    (s.observe sel r).levelsWord = s.levelsWord := rfl
@[simp] theorem advance_prog (s : State) : s.advance.prog = s.prog := rfl
@[simp] theorem produce_prog (s : State) (b : Byte) : (s.produce b).prog = s.prog := rfl
@[simp] theorem inPush_prog (s : State) (w : Word) : (s.inPush w).prog = s.prog := rfl
@[simp] theorem setCmdErr_prog (s : State) : s.setCmdErr.prog = s.prog := rfl

end Sys2Proof.Machine.State
end

