-- ==== Sys2Proof/Laws/Engine.lean ====
section
/-! SUPPORT. What the engine's operations can answer. -/

namespace Sys2Proof.Machine

/-! ### The canonical form is kept -/

theorem diffuseEntry_wf {wMax jw : Nat} {wrap : Bool} {y x : Nat} {e : Int} {k : KernelEntry} {m m' : Memory}
    (hm : m.wf = true) (h : diffuseEntry wMax jw wrap y x e k m = .ok m') : m'.wf = true := by
  unfold diffuseEntry at h
  split at h
  · obtain rfl : m = m' := by simpa using h
    exact hm
  · split at h
    · simp at h
    · exact Memory.writeCell_wf hm h

theorem diffuse_wf {wMax jw : Nat} {wrap : Bool} {y x : Nat} {e : Int} {ks : List KernelEntry} {m m' : Memory}
    (hm : m.wf = true) (h : diffuse wMax jw wrap y x e ks m = .ok m') : m'.wf = true := by
  induction ks generalizing m with
  | nil =>
    obtain rfl : m = m' := by simpa [diffuse] using h
    exact hm
  | cons k rest ih =>
    unfold diffuse at h
    split at h
    · simp at h
    · rename_i m1 h1
      exact ih (diffuseEntry_wf hm h1) h

/-- What a VISIT does to ROWBUF, where it answers: the current cell is read and overwritten, then the
kernel's entries are applied in order. -/
theorem visitCells_ok {wMax jw : Nat} {wrap : Bool} {y x : Nat} {m m' : Memory}
    (h : visitCells wMax jw wrap y x m = .ok m') :
    ∃ c, x < wMax ∧ m.read (rowCellAddr y x) = some c ∧
      diffuse wMax jw wrap y x (c.toInt - thr c.toInt) kernel
        (m.write (rowCellAddr y x) (cellOfInt (thr c.toInt))) = .ok m' := by
  unfold visitCells at h
  split at h
  · simp at h
  · rename_i v hv
    obtain ⟨hx, c, hc, rfl⟩ := Memory.readCell_ok hv
    rw [Memory.writeCell_of_lt _ hx] at h
    exact ⟨c, hx, hc, h⟩

theorem visitCells_wf {wMax jw : Nat} {wrap : Bool} {y x : Nat} {m m' : Memory}
    (hm : m.wf = true) (h : visitCells wMax jw wrap y x m = .ok m') : m'.wf = true := by
  obtain ⟨c, -, -, hd⟩ := visitCells_ok h
  exact diffuse_wf (Memory.wf_write hm _ _) hd

theorem loadCells_wf {wMax t i : Nat} {w : Word} {ks : List Nat} {m m' : Memory}
    (hm : m.wf = true) (h : loadCells wMax t i w ks m = .ok m') : m'.wf = true := by
  induction ks generalizing m with
  | nil =>
    obtain rfl : m = m' := by simpa [loadCells] using h
    exact hm
  | cons k rest ih =>
    unfold loadCells at h
    split at h
    · simp at h
    · rename_i m1 h1
      exact ih (Memory.writeCell_wf hm h1) h

/-! ### LOAD and PACK on cells that exist -/

/-- LOAD's four writes, where the columns exist. -/
theorem loadCells_of_lt {wMax t i : Nat} (w : Word) (m : Memory) (h : 4 * i + 3 < wMax) :
    loadCells wMax t i w [0, 1, 2, 3] m =
      .ok ((((m.write (rowCellAddr t (4 * i + 0)) (cellOfInt (pixelOfWord w 0))).write
        (rowCellAddr t (4 * i + 1)) (cellOfInt (pixelOfWord w 1))).write
        (rowCellAddr t (4 * i + 2)) (cellOfInt (pixelOfWord w 2))).write
        (rowCellAddr t (4 * i + 3)) (cellOfInt (pixelOfWord w 3))) := by
  simp only [loadCells]
  rw [Memory.writeCell_of_lt _ (by omega)]
  simp only []
  rw [Memory.writeCell_of_lt _ (by omega)]
  simp only []
  rw [Memory.writeCell_of_lt _ (by omega)]
  simp only []
  rw [Memory.writeCell_of_lt _ (by omega)]

/-- PACK's byte, where its eight cells hold values. -/
theorem packByte_of_reads {wMax : Nat} {m : Memory} {y b : Nat} (f : Nat → Int)
    (h : ∀ i, i < 8 → m.readCell wMax y (8 * b + i) = .ok (f i)) :
    packByte wMax m y b =
      .ok ([0, 1, 2, 3, 4, 5, 6, 7].foldl (fun acc i => acc ||| bitAt (bit (f i)) i) 0#8) := by
  have h0 := h 0 (by omega); have h1 := h 1 (by omega); have h2 := h 2 (by omega)
  have h3 := h 3 (by omega); have h4 := h 4 (by omega); have h5 := h 5 (by omega)
  have h6 := h 6 (by omega); have h7 := h 7 (by omega)
  simp only [packByte, packCells, h0, h1, h2, h3, h4, h5, h6, h7, List.foldl]

/-! ### The job program's parts -/

@[simp] theorem length_loadRow (jw t : Nat) : (loadRow jw t).length = jw / 4 := by simp [loadRow]
@[simp] theorem length_visitRow (jw y : Nat) : (visitRow jw y).length = jw - 2 := by simp [visitRow]
@[simp] theorem length_packRow (jw y : Nat) : (packRow jw y).length = jw / 8 := by simp [packRow]
@[simp] theorem length_hdrOps : hdrOps.length = 8 := rfl

/-- Every job program begins with the eight HDR micro-ops. -/
theorem eight_le_length_jobProg (jw jh : Nat) : 8 ≤ (jobProg jw jh).length := by
  simp only [jobProg, List.length_append, length_hdrOps]; omega

theorem mem_loadRow {op : MicroOp} {jw t : Nat} : op ∈ loadRow jw t ↔ ∃ i, i < jw / 4 ∧ op = .load t i := by
  simp [loadRow, eq_comm]

theorem mem_visitRow {op : MicroOp} {jw y : Nat} : op ∈ visitRow jw y ↔ ∃ x, x < jw - 2 ∧ op = .visit y x := by
  simp [visitRow, eq_comm]

theorem mem_packRow {op : MicroOp} {jw y : Nat} : op ∈ packRow jw y ↔ ∃ b, b < jw / 8 ∧ op = .pack y b := by
  simp [packRow, eq_comm]

theorem mem_rowStep {op : MicroOp} {jw jh y : Nat} : op ∈ rowStep jw jh y ↔
    (y + 3 ≤ jh ∧ ∃ x, x < jw - 2 ∧ op = .visit y x) ∨ (∃ b, b < jw / 8 ∧ op = .pack y b) ∨
      (y + 4 ≤ jh ∧ ∃ i, i < jw / 4 ∧ op = .load (y + 3) i) := by
  unfold rowStep
  simp only [List.mem_append, mem_packRow]
  constructor
  · rintro ((h | h) | h)
    · split at h
      · rename_i hy; exact .inl ⟨hy, mem_visitRow.mp h⟩
      · simp at h
    · exact .inr (.inl h)
    · split at h
      · rename_i hy; exact .inr (.inr ⟨hy, mem_loadRow.mp h⟩)
      · simp at h
  · rintro (⟨hy, h⟩ | h | ⟨hy, h⟩)
    · rw [if_pos hy]; exact .inl (.inl (mem_visitRow.mpr h))
    · exact .inl (.inr h)
    · rw [if_pos hy]; exact .inr (mem_loadRow.mpr h)

/-! ### The current micro-op -/

theorem currentOp_eq_some {s : State} {op : MicroOp} :
    s.currentOp = some op ↔ s.jobState = .run ∧ s.prog[s.seq]? = some op := by
  unfold State.currentOp; split <;> simp_all

theorem currentOp_of_not_run {s : State} (h : s.jobState ≠ .run) : s.currentOp = none := by
  simp [State.currentOp, h]

/-! ### What a micro-op and the engine's turn can answer -/

/-- What an enabled micro-op does, where it answers a state. -/
theorem microOp_ok {op : MicroOp} {s t : State} (hg : guard op s = true) (h : microOp op s = .ok t) :
    (∃ k, op = .hdr k ∧
      t = (s.produce (headerByte s.jw.toNat s.jh.toNat s.jdw s.jdh k)).advance) ∨
    (∃ r i w rest m, op = .load r i ∧ s.inq = w :: rest ∧
      loadCells s.params.wMax r i w [0, 1, 2, 3] s.rowbuf = .ok m ∧
      t = ({ s with inq := rest, rowbuf := m } : State).advance) ∨
    (∃ y x m, op = .visit y x ∧
      visitCells s.params.wMax s.jw.toNat s.jwrap y x s.rowbuf = .ok m ∧
      t = ({ s with rowbuf := m } : State).advance) ∨
    (∃ y b byte, op = .pack y b ∧ packByte s.params.wMax s.rowbuf y b = .ok byte ∧
      t = (s.produce byte).advance) := by
  cases op with
  | hdr k =>
    simp only [microOp, microHdr, Except.ok.injEq] at h
    exact .inl ⟨k, rfl, h.symm⟩
  | load r i =>
    simp only [microOp, microLoad] at h
    split at h
    · rename_i hq
      simp [guard, hq] at hg
    · rename_i w rest hq
      split at h
      · simp at h
      · rename_i m hm
        exact .inr (.inl ⟨r, i, w, rest, m, rfl, hq, hm, by simpa using h.symm⟩)
  | visit y x =>
    simp only [microOp, microVisit] at h
    split at h
    · simp at h
    · rename_i m hm
      exact .inr (.inr (.inl ⟨y, x, m, rfl, hm, by simpa using h.symm⟩))
  | pack y b =>
    simp only [microOp, microPack] at h
    split at h
    · simp at h
    · rename_i byte hb
      exact .inr (.inr (.inr ⟨y, b, byte, rfl, hb, by simpa using h.symm⟩))

/-- What the engine's turn does, where it answers a state: nothing, or one enabled micro-op. -/
theorem engineTurn_next {s t : State} (h : engineTurn s = .next t) :
    (t = s ∧ s.engineEnabled = false) ∨
    (∃ op, s.currentOp = some op ∧ guard op s = true ∧ microOp op s = .ok t) := by
  unfold engineTurn at h
  split at h
  · rename_i hc
    exact .inl ⟨by simpa using h.symm, by simp [State.engineEnabled, hc]⟩
  · rename_i op hc
    split at h
    · rename_i hg
      split at h
      · rename_i u hu
        exact .inr ⟨op, hc, hg, by rw [hu]; simpa using h⟩
      · simp at h
    · rename_i hg
      exact .inl ⟨by simpa using h.symm, by simpa [State.engineEnabled, hc] using hg⟩

/-- When the engine's turn is a fault. -/
theorem engineTurn_fault {s : State} {f : Fault} (h : engineTurn s = .fault f) :
    ∃ op, s.currentOp = some op ∧ guard op s = true ∧ microOp op s = .error f := by
  unfold engineTurn at h
  split at h
  · simp at h
  · rename_i op hc
    split at h
    · rename_i hg
      split at h
      · simp at h
      · rename_i g hu
        exact ⟨op, hc, hg, by rw [hu]; simpa using h⟩
    · simp at h

/-- The engine's turn is never a refusal. -/
theorem engineTurn_not_refused {s : State} {r : Refusal} : engineTurn s ≠ .refused r := by
  unfold engineTurn
  split
  · simp
  · split
    · split <;> simp
    · simp

/-- An enabled micro-op that answers is the engine's turn. -/
theorem engineTurn_of_enabled {s t : State} {op : MicroOp} (hc : s.currentOp = some op)
    (hg : guard op s = true) (h : microOp op s = .ok t) : engineTurn s = .next t := by
  simp [engineTurn, hc, hg, h]

theorem engineTurn_of_disabled {s : State} (h : s.engineEnabled = false) : engineTurn s = .next s := by
  unfold engineTurn
  split
  · rfl
  · rename_i op hc
    simp only [State.engineEnabled, hc] at h
    simp [h]

end Sys2Proof.Machine
end

