-- ==== Sys2Proof/Laws/PerInstr.lean ====
section
/-! SUPPORT. The family TableRow: the encoder's word of every instruction matches its row's match and
mask in `spec/opcode_table.json`, one lemma a constructor. -/

namespace Sys2Proof.Laws.TableRow

/-- The bits a BUS row speaks of: the selector byte. -/
def busBits (i : Instr) : Byte := (encode i).headD 0#8

/-- The bits a CMD row speaks of: the command word. -/
def cmdBits (i : Instr) : Word :=
  match encode i with
  | [b0, b1, b2, b3] => ofLanes b0 b1 b2 b3
  | _ => 0#32

/-- A BUS row's match and mask hold of an instruction's selector. -/
abbrev Bus (i : Instr) (want mask : Byte) : Prop := busBits i &&& mask = want

/-- A CMD row's match and mask hold of an instruction's word. -/
abbrev Cmd (i : Instr) (want mask : Word) : Prop := cmdBits i &&& mask = want

/-- The row of each instruction, as the table gives it. -/
def Statement (i : Instr) : Prop :=
  match i with
  | .rdId => Bus i 0x00#8 0x7F#8
  | .wrId _ => Bus i 0x40#8 0x7F#8
  | .rdCmd => Bus i 0x04#8 0x7F#8
  | .wrCmd _ => Bus i 0x44#8 0x7F#8
  | .rdStatus => Bus i 0x08#8 0x7F#8
  | .wrStatus _ => Bus i 0x48#8 0x7F#8
  | .rdConfig => Bus i 0x0C#8 0x7F#8
  | .wrConfig _ => Bus i 0x4C#8 0x7F#8
  | .rdWidth => Bus i 0x10#8 0x7F#8
  | .wrWidth _ => Bus i 0x50#8 0x7F#8
  | .rdHeight => Bus i 0x14#8 0x7F#8
  | .wrHeight _ => Bus i 0x54#8 0x7F#8
  | .rdIrqEn => Bus i 0x18#8 0x7F#8
  | .wrIrqEn _ => Bus i 0x58#8 0x7F#8
  | .rdLevels => Bus i 0x1C#8 0x7F#8
  | .wrLevels _ => Bus i 0x5C#8 0x7F#8
  | .rdInData => Bus i 0x20#8 0x7F#8
  | .wrInData _ => Bus i 0x60#8 0x7F#8
  | .rdOutData => Bus i 0x24#8 0x7F#8
  | .wrOutData _ => Bus i 0x64#8 0x7F#8
  | .rdInRemain => Bus i 0x28#8 0x7F#8
  | .wrInRemain _ => Bus i 0x68#8 0x7F#8
  | .rdRsvd2C => Bus i 0x2C#8 0x7F#8
  | .rdRsvdHi _ => Bus i 0x30#8 0x73#8
  | .wrRsvd2C _ => Bus i 0x6C#8 0x7F#8
  | .wrRsvdHi _ _ => Bus i 0x70#8 0x73#8
  | .misalignedOdd _ _ _ _ => Bus i 0x01#8 0x01#8
  | .misalignedTwo _ _ _ => Bus i 0x02#8 0x03#8
  | .nop => Cmd i 0x00000000#32 0xFFFFFFFF#32
  | .start => Cmd i 0x00000001#32 0xFFFFFFFF#32
  | .abort => Cmd i 0x00000002#32 0xFFFFFFFF#32
  | .clear => Cmd i 0x00000003#32 0xFFFFFFFF#32
  | .cmdReserved _ => Cmd i 0x00000000#32 0x00000000#32

theorem rdId : Statement .rdId := by unfold Statement; decide
theorem wrId (v : Word) : Statement (.wrId v) := by
  show 0x40#8 &&& 0x7F#8 = 0x40#8; decide
theorem rdCmd : Statement .rdCmd := by unfold Statement; decide
theorem wrCmd (v : Word) : Statement (.wrCmd v) := by
  show 0x44#8 &&& 0x7F#8 = 0x44#8; decide
theorem rdStatus : Statement .rdStatus := by unfold Statement; decide
theorem wrStatus (v : Word) : Statement (.wrStatus v) := by
  show 0x48#8 &&& 0x7F#8 = 0x48#8; decide
theorem rdConfig : Statement .rdConfig := by unfold Statement; decide
theorem wrConfig (v : Word) : Statement (.wrConfig v) := by
  show 0x4C#8 &&& 0x7F#8 = 0x4C#8; decide
theorem rdWidth : Statement .rdWidth := by unfold Statement; decide
theorem wrWidth (v : Word) : Statement (.wrWidth v) := by
  show 0x50#8 &&& 0x7F#8 = 0x50#8; decide
theorem rdHeight : Statement .rdHeight := by unfold Statement; decide
theorem wrHeight (v : Word) : Statement (.wrHeight v) := by
  show 0x54#8 &&& 0x7F#8 = 0x54#8; decide
theorem rdIrqEn : Statement .rdIrqEn := by unfold Statement; decide
theorem wrIrqEn (v : Word) : Statement (.wrIrqEn v) := by
  show 0x58#8 &&& 0x7F#8 = 0x58#8; decide
theorem rdLevels : Statement .rdLevels := by unfold Statement; decide
theorem wrLevels (v : Word) : Statement (.wrLevels v) := by
  show 0x5C#8 &&& 0x7F#8 = 0x5C#8; decide
theorem rdInData : Statement .rdInData := by unfold Statement; decide
theorem wrInData (v : Word) : Statement (.wrInData v) := by
  show 0x60#8 &&& 0x7F#8 = 0x60#8; decide
theorem rdOutData : Statement .rdOutData := by unfold Statement; decide
theorem wrOutData (v : Word) : Statement (.wrOutData v) := by
  show 0x64#8 &&& 0x7F#8 = 0x64#8; decide
theorem rdInRemain : Statement .rdInRemain := by unfold Statement; decide
theorem wrInRemain (v : Word) : Statement (.wrInRemain v) := by
  show 0x68#8 &&& 0x7F#8 = 0x68#8; decide
theorem rdRsvd2C : Statement .rdRsvd2C := by unfold Statement; decide
theorem rdRsvdHi (k : BitVec 2) : Statement (.rdRsvdHi k) := by
  revert k; unfold Statement; decide
theorem wrRsvd2C (v : Word) : Statement (.wrRsvd2C v) := by
  show 0x6C#8 &&& 0x7F#8 = 0x6C#8; decide
theorem wrRsvdHi (k : BitVec 2) (v : Word) : Statement (.wrRsvdHi k v) := by
  show selectorByte true (3#2 ++ k) 0#2 &&& 0x73#8 = 0x70#8
  revert k; decide
theorem misalignedOdd (we : Bool) (idx : BitVec 4) (al1 : Bool) (v : Word) :
    Statement (.misalignedOdd we idx al1 v) := by
  have h : busBits (.misalignedOdd we idx al1 v) = selectorByte we idx (BitVec.ofBool al1 ++ 1#1) := by
    cases we <;> rfl
  show busBits _ &&& _ = _
  rw [h]
  clear h
  revert we idx al1; decide
theorem misalignedTwo (we : Bool) (idx : BitVec 4) (v : Word) : Statement (.misalignedTwo we idx v) := by
  have h : busBits (.misalignedTwo we idx v) = selectorByte we idx 2#2 := by
    cases we <;> rfl
  show busBits _ &&& _ = _
  rw [h]
  clear h
  revert we idx; decide
theorem nop : Statement .nop := by unfold Statement; decide
theorem start : Statement .start := by unfold Statement; decide
theorem abort : Statement .abort := by unfold Statement; decide
theorem clear : Statement .clear := by unfold Statement; decide
theorem cmdReserved (v : Word) : Statement (.cmdReserved v) := by
  show cmdBits _ &&& 0#32 = 0#32
  simp

end Sys2Proof.Laws.TableRow
end

