-- ==== Sys2Proof/Laws/Step.lean ====
section
/-! SUPPORT. What the shared operations of the host's transactions, and one step, can answer. -/

namespace Sys2Proof.Machine

@[simp] theorem readDone_eq (sel : BitVec 7) (v : Word) (s : State) :
    readDone sel v s = .next (s.observe sel (.data v)) := rfl
@[simp] theorem writeDone_eq (sel : BitVec 7) (s : State) :
    writeDone sel s = .next (s.observe sel .ack) := rfl
@[simp] theorem commandDone_eq (s : State) : commandDone s = .next (s.observe 0x44#7 .ack) := rfl

/-- What START does (41 R144). -/
theorem cmdStart_cases (s : State) :
    (s.jobState ≠ .idle ∧ cmdStart s = s.setCmdErr) ∨
    (s.jobState = .idle ∧ dimCheck s.params.wMax s.width.toNat s.height.toNat = .none ∧
      cmdStart s = s.beginJob) ∨
    (s.jobState = .idle ∧ dimCheck s.params.wMax s.width.toNat s.height.toNat ≠ .none ∧
      cmdStart s = s.raiseError (dimCheck s.params.wMax s.width.toNat s.height.toNat)) := by
  unfold cmdStart
  split
  · rename_i hi
    split
    · rename_i hd; exact .inr (.inl ⟨hi, hd, rfl⟩)
    · rename_i hd; exact .inr (.inr ⟨hi, hd, rfl⟩)
  · rename_i hi; exact .inl ⟨hi, rfl⟩

/-- What a command word does (41 R141). -/
theorem executeCommand_cases (v : Word) (s : State) :
    (v = 0#32 ∧ executeCommand v s = s) ∨ (v = 1#32 ∧ executeCommand v s = cmdStart s) ∨
    (v = 2#32 ∧ executeCommand v s = s.abortJob) ∨ (v = 3#32 ∧ executeCommand v s = s.clearErrors) ∨
    (isCommandWord v = false ∧ executeCommand v s = s.setCmdErr) := by
  unfold executeCommand
  by_cases h0 : v = 0#32
  · simp [h0]
  · by_cases h1 : v = 1#32
    · simp [h1]
    · by_cases h2 : v = 2#32
      · simp [h2]
      · by_cases h3 : v = 3#32
        · simp [h3]
        · simp [h0, h1, h2, h3, isCommandWord]

/-- What an IN_DATA write does (40 R116). -/
theorem acceptInData_cases (v : Word) (s : State) :
    (s.jobState ≠ .run ∧ acceptInData v s = s) ∨
    (s.jobState = .run ∧ (s.inRemain = 0#32 ∨ s.inq.length = s.params.inDepth) ∧
      acceptInData v s = s.raiseError .inOverrun) ∨
    (s.jobState = .run ∧ s.inRemain ≠ 0#32 ∧ s.inq.length ≠ s.params.inDepth ∧
      acceptInData v s = { s.inPush v with inRemain := s.inRemain - 1#32 }) := by
  unfold acceptInData
  split
  · rename_i h; exact .inl ⟨h, rfl⟩
  · rename_i h
    have hr : s.jobState = .run := by simpa using h
    split
    · rename_i h2; exact .inr (.inl ⟨hr, h2, rfl⟩)
    · rename_i h2
      exact .inr (.inr ⟨hr, fun h3 => h2 (.inl h3), fun h3 => h2 (.inr h3), rfl⟩)

/-- No instruction faults: the spec's errors are states, and its unwritten cells are the engine's. -/
theorem exec_not_fault (i : Instr) (s : State) (f : Fault) : exec i s ≠ .fault f := by
  cases i <;> simp [exec, execRdId, execWrId, execRdCmd, execWrCmd, execRdStatus, execWrStatus, execRdConfig,
    execWrConfig, execRdWidth, execWrWidth, execRdHeight, execWrHeight, execRdIrqEn, execWrIrqEn,
    execRdLevels, execWrLevels, execRdInData, execWrInData, execWrOutData, execRdInRemain,
    execWrInRemain, execRdRsvd2C, execRdRsvdHi, execWrRsvd2C, execWrRsvdHi, execMisalignedOdd,
    execMisalignedTwo, execNop, execStart, execAbort, execClear, execCmdReserved]
  unfold execRdOutData
  split <;> simp

/-- What a host step does, where it answers a state (70 R280a). -/
theorem hostStep_next {r : HostRequest} {s t : State} (h : hostStep r s = .next t) :
    (fetchRequest s.params r = .elsewhere ∧ t = s) ∨
    (∃ bytes i, fetchRequest s.params r = .frame bytes ∧ decode bytes = .ok i ∧ exec i s = .next t) := by
  unfold hostStep at h
  split at h
  · rename_i hf; exact .inl ⟨hf, by simpa using h.symm⟩
  · simp at h
  · rename_i bytes hf
    split at h
    · rename_i i hd; exact .inr ⟨bytes, i, hf, hd, h⟩
    · simp at h

/-- A host step never faults. -/
theorem hostStep_not_fault {r : HostRequest} {s : State} {f : Fault} : hostStep r s ≠ .fault f := by
  unfold hostStep
  split
  · simp
  · simp
  · split
    · exact exec_not_fault _ _ _
    · simp

/-- What a step does, where it answers a state (70 R280): the engine's turn, a host step or reset. -/
theorem step_next {s t : State} (h : step s = .next t) :
    (s.events = [] ∧ engineTurn s = .next t) ∨
    (∃ rest, s.events = .engine :: rest ∧ engineTurn { s with events := rest } = .next t) ∨
    (∃ r rest, s.events = .host r :: rest ∧ hostStep r { s with events := rest } = .next t) ∨
    (∃ rest, s.events = .reset :: rest ∧ t = State.resetBlock { s with events := rest }) := by
  unfold step at h
  split at h
  · rename_i he; exact .inl ⟨he, h⟩
  · rename_i e rest he
    cases e with
    | host r => exact .inr (.inr (.inl ⟨r, rest, he, h⟩))
    | engine => exact .inr (.inl ⟨rest, he, h⟩)
    | reset => exact .inr (.inr (.inr ⟨rest, he, by simpa using h.symm⟩))

/-- A step faults only in the engine's turn. -/
theorem step_fault {s : State} {f : Fault} (h : step s = .fault f) :
    (s.events = [] ∧ engineTurn s = .fault f) ∨
    ∃ rest, s.events = .engine :: rest ∧ engineTurn { s with events := rest } = .fault f := by
  unfold step at h
  split at h
  · rename_i he; exact .inl ⟨he, h⟩
  · rename_i e rest he
    cases e with
    | host r => exact absurd h hostStep_not_fault
    | engine => exact .inr ⟨rest, he, h⟩
    | reset => simp at h

end Sys2Proof.Machine
end

