-- ==== Sys2Proof/Tests/Slice0.lean ====
section
/-! SUPPORT. Tests. The expected values are the spec's own: the tables of 30_encoding.md and the vectors of
95_test_vectors.md, whose names (CM-2, DF-5, ...) stand beside them; the rest is hand calculation from the
rule named. The witnesses at the end show that the hypotheses of each obligation can be met. -/

namespace Sys2Proof.Tests

open Sys2Proof Sys2Proof.Machine

/-! ### Helpers -/

/-- The state an outcome answers. -/
def nextOf (o : Host.Outcome State Fault Refusal) : Option State :=
  match o with
  | .next s => some s
  | .fault _ => none
  | .refused _ => none

theorem eq_next_of_nextOf {o : Host.Outcome State Fault Refusal} {t : State} (h : nextOf o = some t) :
    o = .next t := by
  cases o <;> simp_all [nextOf]

/-- A test on the state an outcome answers is a next state that passes it. -/
theorem next_of_test {o : Host.Outcome State Fault Refusal} {p : State → Bool}
    (h : (nextOf o).any p = true) : ∃ t, o = .next t ∧ p t = true := by
  cases o <;> simp_all [nextOf]

/-- The newest reply in the host's record. -/
def replyOf (s : State) : Option Reply := s.trace.getLast?.map Obs.reply

/-- The reply to one instruction. -/
def reply (i : Instr) (s : State) : Option Reply := (nextOf (exec i s)).bind replyOf

/-- The value of a read. -/
def readsAs (i : Instr) (s : State) (v : Word) : Bool := decide (reply i s = some (.data v))

/-- The state after one instruction. -/
def after (i : Instr) (s : State) (p : State → Bool) : Bool := (nextOf (exec i s)).any p

/-- STATUS, LEVELS and IN_REMAIN of a state. -/
def shows (status levels remain : Word) (s : State) : Bool :=
  decide (s.statusWord = status ∧ s.levelsWord = levels ∧ s.inRemain = remain)

/-- IDLE with the given dimensions. -/
def idle (w h : Word) : State := { State.reset with width := w, height := h }

/-- A running job of the given dimensions, just started. -/
def running (w h : Word) : State :=
  { idle w h with
    jobState := .run, jw := w, jh := h, inRemain := BitVec.ofNat 32 (w.toNat * h.toNat / 4) }

/-- ERROR with the given code. -/
def failed (c : ErrCode) : State := { State.reset with jobState := .error, errCode := c }

/-- DONE. -/
def finished : State := { State.reset with jobState := .done, produced := true }

/-- A 384x0 job whose eight header bytes are all produced and read but for the last. -/
def lastByteLeft : State :=
  { running 384#32 0#32 with seq := 8, produced := true, outq := [⟨0x00#8, true⟩] }

/-- The cells of rows 0, 1, 2, by row. -/
def rowsOf (rows : List (List Int)) : Memory :=
  (rows.zipIdx).flatMap fun r => (r.1.zipIdx).map fun p => (rowCellAddr r.2 p.2, cellOfInt p.1)

/-- The integers of the cells of row `y`, columns below `n`. -/
def rowAt (m : Memory) (y n : Nat) : List (Option Int) :=
  (List.range n).map fun x => (m.read (rowCellAddr y x)).map BitVec.toInt

/-- An 8x3 job of one grey level with all rows loaded, before VISIT(0, 0). -/
def loadedJob (v : Int) : State :=
  { running 8#32 3#32 with
    seq := 14, inRemain := 0#32, rowbuf := rowsOf (List.replicate 3 (List.replicate 8 v)) }

/-- The same job before PACK(0, 0), its visits taken for done. -/
def packJob (v : Int) : State := { loadedJob v with seq := 20 }

/-- Host accesses. -/
def hostRead (addr : Nat) : Event := .host (.access ⟨false, addr, 4, 0#32⟩)
def hostWrite (addr : Nat) (v : Word) : Event := .host (.access ⟨true, addr, 4, v⟩)

/-! ### WellFormed refuses ill-formed terms -/

theorem test_wf_refuses_cmdReserved_nop : Instr.wf (.cmdReserved 0#32) = false := by decide
theorem test_wf_refuses_cmdReserved_clear : Instr.wf (.cmdReserved 3#32) = false := by decide
theorem test_wf_refuses_odd_read_with_data : Instr.wf (.misalignedOdd false 2#4 true 1#32) = false := by decide
theorem test_wf_refuses_two_read_with_data : Instr.wf (.misalignedTwo false 2#4 1#32) = false := by decide
theorem test_wf_takes_reserved_word : Instr.wf (.cmdReserved 4#32) = true := by decide
theorem test_wf_takes_misaligned_write : Instr.wf (.misalignedTwo true 2#4 1#32) = true := by decide

/-! ### Decoding: the selectors of 30 R81 and the words of 30 R84, one a constructor -/

theorem test_decode_reads :
    [0x00, 0x04, 0x08, 0x0C, 0x10, 0x14, 0x18, 0x1C].map (decodeTableWord 8) =
      [some .rdId, some .rdCmd, some .rdStatus, some .rdConfig, some .rdWidth, some .rdHeight,
       some .rdIrqEn, some .rdLevels] := by decide

theorem test_decode_more_reads :
    [0x20, 0x24, 0x28, 0x2C, 0x30, 0x34, 0x38, 0x3C].map (decodeTableWord 8) =
      [some .rdInData, some .rdOutData, some .rdInRemain, some .rdRsvd2C, some (.rdRsvdHi 0#2),
       some (.rdRsvdHi 1#2), some (.rdRsvdHi 2#2), some (.rdRsvdHi 3#2)] := by decide

/-- With write data 0x11223344 above the selector byte. -/
theorem test_decode_writes :
    [0x1122334440, 0x1122334444, 0x1122334448, 0x112233444C, 0x1122334450, 0x1122334454,
      0x1122334458, 0x112233445C].map (decodeTableWord 40) =
      [some (.wrId 0x11223344#32), some (.wrCmd 0x11223344#32), some (.wrStatus 0x11223344#32),
       some (.wrConfig 0x11223344#32), some (.wrWidth 0x11223344#32), some (.wrHeight 0x11223344#32),
       some (.wrIrqEn 0x11223344#32), some (.wrLevels 0x11223344#32)] := by decide

theorem test_decode_more_writes :
    [0x1122334460, 0x1122334464, 0x1122334468, 0x112233446C, 0x1122334470, 0x1122334474,
      0x1122334478, 0x112233447C].map (decodeTableWord 40) =
      [some (.wrInData 0x11223344#32), some (.wrOutData 0x11223344#32), some (.wrInRemain 0x11223344#32),
       some (.wrRsvd2C 0x11223344#32), some (.wrRsvdHi 0#2 0x11223344#32),
       some (.wrRsvdHi 1#2 0x11223344#32), some (.wrRsvdHi 2#2 0x11223344#32),
       some (.wrRsvdHi 3#2 0x11223344#32)] := by decide

/-- WE = 0, IDX = 2, AL = 01; WE = 1, IDX = 9, AL = 11; WE = 0, IDX = 0, AL = 10; WE = 1, IDX = 8, AL = 10. -/
theorem test_decode_misaligned :
    [0x09, 0x67, 0x02, 0x62].map (decodeTableWord 8) =
      [some (.misalignedOdd false 2#4 false 0#32), some (.misalignedOdd true 9#4 true 0#32),
       some (.misalignedTwo false 0#4 0#32), some (.misalignedTwo true 8#4 0#32)] := by decide

theorem test_decode_commands :
    [0x00000000, 0x00000001, 0x00000002, 0x00000003, 0x00000004, 0x00000101].map (decodeTableWord 32) =
      [some .nop, some .start, some .abort, some .clear, some (.cmdReserved 4#32),
       some (.cmdReserved 0x101#32)] := by decide

/-- 20 R64: lane 0 is the low byte. -/
theorem test_decode_lanes :
    decode [0x60#8, 0x00#8, 0x7F#8, 0x80#8, 0x81#8] = .ok (.wrInData 0x81807F00#32) := rfl

theorem test_decode_rejects_empty : decode [] = .error .badLength := rfl
theorem test_decode_rejects_two_bytes : decode [0x40#8, 0x00#8] = .error .badLength := rfl
theorem test_decode_rejects_wide_selector : decode [0x80#8] = .error .selectorTooWide := rfl
theorem test_decode_rejects_bare_write : decode [0x40#8] = .error .writeWithoutData := rfl
theorem test_decode_rejects_read_data :
    decode [0x00#8, 0x01#8, 0x00#8, 0x00#8, 0x00#8] = .error .readWithData := rfl

/-! ### Register transactions (HA vectors) -/

theorem test_rdId : readsAs .rdId State.reset 0x44500001#32 = true := by decide
theorem test_rdStatus_reset : readsAs .rdStatus State.reset 0#32 = true := by decide
/-- ERROR, CMD_ERR, code 4, IRQ through ERR_EN: 0x4F. -/
theorem test_rdStatus_fields :
    readsAs .rdStatus { failed .inOverrun with errEn := true, cmdErr := true } 0x4F#32 = true := by decide
theorem test_rdConfig : readsAs .rdConfig { State.reset with dh := true } 2#32 = true := by decide
theorem test_rdWidth_reset : readsAs .rdWidth State.reset 0x180#32 = true := by decide
theorem test_rdHeight : readsAs .rdHeight (idle 8#32 0xFFFFFFFF#32) 0xFFFFFFFF#32 = true := by decide
theorem test_rdIrqEn : readsAs .rdIrqEn { State.reset with cmdErrEn := true } 4#32 = true := by decide
theorem test_rdLevels_reset : readsAs .rdLevels State.reset 0x10#32 = true := by decide
/-- P8: four bytes out, one word in. -/
theorem test_rdLevels_full :
    readsAs .rdLevels { running 8#32 3#32 with
      inq := [0#32], outq := List.replicate 4 ⟨0#8, false⟩ } 0x0004000F#32 = true := by decide
theorem test_rdInRemain : readsAs .rdInRemain (running 8#32 3#32) 6#32 = true := by decide
theorem test_rdCmd : readsAs .rdCmd { State.reset with cmdErr := true } 0#32 = true := by decide
theorem test_rdInData : readsAs .rdInData { running 8#32 3#32 with inq := [7#32] } 0#32 = true := by decide
theorem test_rdRsvd2C : readsAs .rdRsvd2C State.reset 0#32 = true := by decide
theorem test_rdRsvdHi : readsAs (.rdRsvdHi 0#2) State.reset 0#32 = true := by decide

theorem test_wrId : after (.wrId 0x12345678#32) State.reset
    (fun s => decide (s = { State.reset with trace := [⟨0x40#7, .ack, false⟩] })) = true := by decide
theorem test_wrStatus : after (.wrStatus 0xFFFFFFFF#32) State.reset (readsAs .rdStatus · 0#32) = true := by decide
theorem test_wrConfig : after (.wrConfig 0xFFFFFFFF#32) State.reset (readsAs .rdConfig · 7#32) = true := by decide
theorem test_wrConfig_one_bit : after (.wrConfig 4#32) State.reset
    (fun s => s.leftWrap && !s.dw && !s.dh) = true := by decide
theorem test_wrIrqEn : after (.wrIrqEn 0xFFFFFFF8#32) State.reset (readsAs .rdIrqEn · 0#32) = true := by decide
theorem test_wrIrqEn_one_bit : after (.wrIrqEn 2#32) State.reset
    (fun s => s.errEn && !s.doneEn && !s.cmdErrEn) = true := by decide
theorem test_wrWidth : after (.wrWidth 0xFFFFFFFF#32) State.reset
    (fun s => readsAs .rdWidth s 0xFFFFFFFF#32 && readsAs .rdHeight s 0#32) = true := by decide
theorem test_wrHeight : after (.wrHeight 100#32) State.reset
    (fun s => readsAs .rdHeight s 100#32 && readsAs .rdWidth s 384#32) = true := by decide
theorem test_wrLevels : after (.wrLevels 5#32) State.reset (shows 0#32 0x10#32 0#32) = true := by decide
theorem test_wrInRemain : after (.wrInRemain 5#32) (running 8#32 3#32) (shows 1#32 0x10#32 6#32) = true := by decide
theorem test_wrOutData : after (.wrOutData 5#32) { running 8#32 3#32 with outq := [⟨1#8, false⟩] }
    (fun s => decide (s.outq = [⟨1#8, false⟩])) = true := by decide
theorem test_wrRsvd2C : after (.wrRsvd2C 5#32) State.reset (shows 0#32 0x10#32 0#32) = true := by decide
theorem test_wrRsvdHi_selector : after (.wrRsvdHi 3#2 5#32) State.reset
    (fun s => decide (s.trace.map Obs.sel = [0x7C#7])) = true := by decide

/-- HA-18: ignored in IDLE. -/
theorem test_wrInData_idle : after (.wrInData 0x01020304#32) State.reset (shows 0#32 0x10#32 0#32) = true := by decide
theorem test_wrInData_accepted : after (.wrInData 9#32) (running 8#32 3#32)
    (fun s => shows 1#32 0xF#32 5#32 s && decide (s.inq = [9#32])) = true := by decide
/-- ER-6: the FIFO is full. -/
theorem test_wrInData_overrun :
    after (.wrInData 9#32) { running 8#32 3#32 with params := ⟨384, 1, 64, 0⟩, inq := [7#32], inRemain := 5#32 }
      (shows 0x43#32 1#32 0#32) = true := by decide
theorem test_rdOutData_empty : readsAs .rdOutData finished 0#32 = true := by decide
theorem test_rdOutData_inner :
    after .rdOutData { running 8#32 3#32 with outq := [⟨0x1D#8, false⟩, ⟨0x76#8, false⟩] }
      (fun s => decide (replyOf s = some (.data 0x11D#32) ∧ s.outq = [⟨0x76#8, false⟩])) = true := by decide
/-- P7: the LAST byte of the header-only job reads 0x300, and the job is DONE. -/
theorem test_rdOutData_last :
    after .rdOutData lastByteLeft
      (fun s => decide (replyOf s = some (.data 0x300#32)) && shows 0x102#32 0x10#32 0#32 s) = true := by decide

theorem test_misalignedOdd : exec (.misalignedOdd false 2#4 false 0#32) State.reset = .refused .misaligned := rfl
theorem test_misalignedTwo : exec (.misalignedTwo true 2#4 1#32) State.reset = .refused .misaligned := rfl

/-! ### Commands (CM, ER and P3 vectors) -/

theorem test_nop : after .nop State.reset (shows 0#32 0x10#32 0#32) = true := by decide
theorem test_start : after .start (idle 8#32 3#32)
    (fun s => shows 1#32 0x10#32 6#32 s && decide (s.jw = 8#32 ∧ s.jh = 3#32 ∧ s.seq = 0)) = true := by decide
/-- ER-3. -/
theorem test_start_capacity : after .start { idle 392#32 1#32 with errEn := true }
    (shows 0x3B#32 0x10#32 0#32) = true := by decide
/-- CM-5. -/
theorem test_abort : after .abort { running 8#32 3#32 with
      inq := [1#32], outq := List.replicate 4 ⟨0#8, false⟩, seq := 4 }
    (shows 0#32 0x10#32 0#32) = true := by decide
/-- CM-11. -/
theorem test_abort_keeps_cmdErr : after .abort { State.reset with cmdErr := true }
    (shows 4#32 0x10#32 0#32) = true := by decide
/-- CM-6. -/
theorem test_clear_done : after .clear finished (shows 0#32 0x10#32 0#32) = true := by decide
/-- CM-4. -/
theorem test_clear_run : after .clear { running 8#32 3#32 with cmdErr := true }
    (shows 1#32 0x10#32 6#32) = true := by decide
/-- CM-9. -/
theorem test_cmdReserved : after (.cmdReserved 0x101#32) State.reset (shows 4#32 0x10#32 0#32) = true := by decide
/-- CM-3, through the register. -/
theorem test_wrCmd_start_in_run : after (.wrCmd 1#32) (running 8#32 3#32) (shows 5#32 0x10#32 6#32) = true := by decide
/-- CM-12. -/
theorem test_wrCmd_start_in_error : after (.wrCmd 1#32) (failed .dimNotMult8) (shows 0x17#32 0x10#32 0#32) = true := by
  decide

/-- DC-1 to DC-12, each a boundary of one of DIMCHECK's clauses. -/
theorem test_dimCheck :
    [dimCheck 384 384 100, dimCheck 384 385 1, dimCheck 384 12 0, dimCheck 384 0 0, dimCheck 384 0 70000,
     dimCheck 384 8 65535, dimCheck 384 8 65536, dimCheck 384 524288 1, dimCheck 384 0xFFFFFFF8 1,
     dimCheck 384 0xFFFFFFFF 1, dimCheck 384 392 1, dimCheck 400 392 1] =
    [.none, .dimNotMult8, .dimNotMult8, .none, .dimHdrRange, .none, .dimHdrRange, .dimHdrRange, .dimHdrRange,
     .dimNotMult8, .dimCapacity, .none] := by decide

/-- IRQ truth table of 95, the row of IRQ_EN = 1 and of IRQ_EN = 4, over (IDLE, RUN, DONE, ERROR) x CMD_ERR. -/
theorem test_irq_table :
    ([(true, false), (false, true)].map fun en =>
      [(JobState.idle, false), (.run, false), (.done, false), (.error, false),
       (.idle, true), (.run, true), (.done, true), (.error, true)].map fun sc =>
        ({ State.reset with doneEn := en.1, cmdErrEn := en.2, jobState := sc.1, cmdErr := sc.2 } : State).irq) =
    [[false, false, true, false, false, false, true, false],
     [false, false, false, false, true, true, true, true]] := by decide

/-! ### The engine (SQ, THR, DF, VS, PK and HD vectors) -/

/-- SQ-1 to SQ-3. -/
theorem test_jobProg_8x3 :
    jobProg 8 3 = hdrOps ++
      [.load 0 0, .load 0 1, .load 1 0, .load 1 1, .load 2 0, .load 2 1,
       .visit 0 0, .visit 0 1, .visit 0 2, .visit 0 3, .visit 0 4, .visit 0 5,
       .pack 0 0, .pack 1 0, .pack 2 0] := by decide

theorem test_jobProg_lengths :
    [(jobProg 8 1).length, (jobProg 8 2).length, (jobProg 16 4).length, (jobProg 0 5).length,
     (jobProg 384 0).length] = [11, 14, 60, 8, 8] := by decide

theorem test_thr : [-128, 0, 127, 128, 129, 255, 383].map thr = [0, 0, 0, 0, 255, 255, 255] := by decide

/-- DF-1 to DF-13. -/
theorem test_diff :
    [diff 100 100 7, diff 200 (-55) 7, diff 0 (-126) 7, diff 0 (-18) 1, diff 5 (-7) 1, diff 0 (-1) 1,
     diff 1 (-126) 7, diff (-1) 1 1, diff (-3) 128 1, diff 10 (-126) 1, diff 0 128 7, diff (-128) (-128) 7,
     diff (-13) (-18) 7] = [114, 191, -18, 0, 4, 0, -17, 0, 0, 7, 18, -146, -15] := by decide

/-- 43 R187: discarded under one policy, wrapped to the same image row's right end under the other. -/
theorem test_target_left_edge :
    (target 0 5 8 false ⟨-2, 1, 3⟩, target 0 5 8 true ⟨-2, 1, 3⟩, target 5 5 8 true ⟨2, 2, 1⟩) =
      (none, some (6, 6), some (7, 7)) := by decide

/-- VS-1: VISIT(0, 0) of an all-200 image. -/
theorem test_visit_200 :
    (nextOf (engineTurn (loadedJob 200))).map (fun s => (rowAt s.rowbuf 0 8, s.seq)) =
      some ([some 255, some 191, some 194, some 200, some 200, some 200, some 200, some 200], 15) := by
  decide

theorem test_visit_200_below :
    (nextOf (engineTurn (loadedJob 200))).map (fun s => (rowAt s.rowbuf 1 4, rowAt s.rowbuf 2 4)) =
      some ([some 191, some 194, some 196, some 200], [some 194, some 196, some 198, some 200]) := by
  decide

/-- VS-3's second visit: a negative cell, and a sum truncated toward zero. -/
theorem test_visit_negative :
    (nextOf (engineTurn { loadedJob 0 with
      seq := 15
      rowbuf := rowsOf [[255, -18, -13, 0, 0, 0, 0, 0], [-18, -13, -7, 0, 0, 0, 0, 0],
        [-13, -7, -2, 0, 0, 0, 0, 0]] })).map
      (fun s => ((rowAt s.rowbuf 0 3).drop 1, (rowAt s.rowbuf 1 1), (rowAt s.rowbuf 2 4).drop 3)) =
      some ([some 0, some (-15)], [some (-19)], [some 0]) := by
  decide

/-- 30 R85: lane 0 is the leftmost pixel. -/
theorem test_load :
    (nextOf (engineTurn { running 8#32 1#32 with seq := 8, inq := [0x81807F00#32, 5#32] })).map
      (fun s => (rowAt s.rowbuf 0 5, s.inq, s.seq)) =
      some ([some 0, some 127, some 128, some 129, none], [5#32], 9) := by decide

/-- PK-1, in the job of P4: the last byte, tagged LAST. -/
theorem test_pack :
    (nextOf (engineTurn { running 8#32 1#32 with
      seq := 10, rowbuf := rowsOf [[0, 127, 128, 129, 200, 255, 128, 129]] })).map
      (fun s => (s.outq, s.produced, s.seq)) = some ([⟨0xE2#8, true⟩], true, 11) := by decide

/-- PK-5 and PK-6. -/
theorem test_pack_bit_order :
    ((packByte 384 (rowsOf [[0, 255, 255, 255, 255, 255, 255, 255]]) 0 0).toOption,
     (packByte 384 (rowsOf [[255, 255, 255, 255, 255, 255, 255, 0]]) 0 0).toOption) =
      (some 0x80#8, some 0x01#8) := by decide

theorem test_pack_unwritten :
    engineTurn { running 8#32 1#32 with seq := 10 } = .fault .unwrittenCell := rfl

/-- HD-1, HD-2, HD-3. -/
theorem test_header :
    (header 384 100 false false, header 2048 300 true true, header 65528 65535 false true) =
      ([0x1D#8, 0x76#8, 0x30#8, 0x00#8, 0x30#8, 0x00#8, 0x64#8, 0x00#8],
       [0x1D#8, 0x76#8, 0x30#8, 0x03#8, 0x00#8, 0x01#8, 0x2C#8, 0x01#8],
       [0x1D#8, 0x76#8, 0x30#8, 0x02#8, 0xFF#8, 0x1F#8, 0xFF#8, 0xFF#8]) := by decide

/-- SQ-6: HDR(7) is the last micro-op of the job that P7 starts. -/
theorem test_hdr_last :
    (nextOf (engineTurn { running 384#32 0#32 with seq := 7 })).map (fun s => (s.outq, s.produced)) =
      some ([⟨0x00#8, true⟩], true) := by decide

/-- SQ-9: no input, so the engine stands still at LOAD(0, 0). -/
theorem test_engine_stalls_on_input :
    engineTurn { running 8#32 3#32 with seq := 8 } = .next { running 8#32 3#32 with seq := 8 } := rfl

/-! ### Steps -/

/-- The first step after reset runs the word placed: START accepts 384x0 (41 R146). -/
theorem test_withFetchWord_start :
    (nextOf (step (State.reset.withFetchWord 32 1))).map (fun s => (s.jobState, s.events)) =
      some (.run, []) := by decide

theorem test_withFetchWord_rdWidth :
    (nextOf (step (State.reset.withFetchWord 8 0x10))).bind replyOf = some (.data 384#32) := by decide

theorem test_withFetchWord_misaligned :
    step (State.reset.withFetchWord 8 0x01) = .refused .misaligned := rfl

/-- HA-20: an 8-bit read. -/
theorem test_step_refuses_byte_access :
    step { State.reset with events := [.host (.access ⟨false, 8, 1, 0#32⟩)] } = .refused .accessSize := rfl

/-- RS-2. -/
theorem test_reset_in_run :
    (nextOf (step { running 8#32 3#32 with
      dw := true, outq := [⟨1#8, false⟩], inq := [1#32], events := [.reset] })).map
      (fun s => (s.statusWord, s.levelsWord, s.width, s.configWord)) =
      some (0#32, 0x10#32, 384#32, 0#32) := by decide

/-! ### Good states, for the witnesses -/

/-- An idle machine with nothing queued has the invariant. -/
theorem inv_of_idle (s : State) (hp : s.params.legal) (hj : s.jobState = .idle) (he : s.errCode = .none)
    (hm : s.rowbuf = []) (hi : s.inq = []) (ho : s.outq = []) (hr : s.inRemain = 0#32)
    (hd : s.produced = false) : s.Inv where
  paramsLegal := hp
  memWf := by simp [hm]
  cellsExist := by simp [hm]
  inqBound := by simp [hi]
  outqBound := by simp [ho]
  inqIdle := fun _ => hi
  outqIdle := fun _ => ho
  remainIdle := fun _ => hr
  errCodeIff := by simp [hj, he]
  doneProduced := by simp [hj]
  idleNotProduced := fun _ => hd
  runInv := by simp [hj]

theorem inv_reset : State.reset.Inv := by
  apply inv_of_idle <;> decide

/-- ERROR after an overrun, before the given events. -/
theorem inv_failed (evs : List Event) : ({ failed .inOverrun with events := evs } : State).Inv where
  paramsLegal := show Params.legal Params.default by decide
  memWf := rfl
  cellsExist := by simp [failed, State.reset]
  inqBound := by simp [failed, State.reset]
  outqBound := by simp [failed, State.reset]
  inqIdle := fun _ => rfl
  outqIdle := fun _ => rfl
  remainIdle := fun _ => rfl
  errCodeIff := by simp [failed]
  doneProduced := by simp [failed]
  idleNotProduced := fun _ => rfl
  runInv := by simp [failed]

/-- 8x3, the first step of the engine to come. -/
theorem inv_running : (running 8#32 3#32).Inv where
  paramsLegal := by decide
  memWf := by decide
  cellsExist := by simp [running, idle, State.reset]
  inqBound := by decide
  outqBound := by decide
  inqIdle := by decide
  outqIdle := by decide
  remainIdle := by decide
  errCodeIff := by decide
  doneProduced := by decide
  idleNotProduced := by decide
  runInv := fun _ =>
    { widthMul8 := by decide
      widthFits := by decide
      heightFits := by decide
      seqBound := by decide
      wordCount := by decide
      producedAtEnd := by decide
      tags := by simp [running, idle, State.reset]
      outAtEnd := by decide
      loaded := by simp [running, idle, State.reset] }

/-- 384x0, all produced, the LAST byte still to be read. -/
theorem inv_lastByteLeft : lastByteLeft.Inv where
  paramsLegal := by decide
  memWf := by decide
  cellsExist := by simp [lastByteLeft, running, idle, State.reset]
  inqBound := by decide
  outqBound := by decide
  inqIdle := by decide
  outqIdle := by decide
  remainIdle := by decide
  errCodeIff := by decide
  doneProduced := by decide
  idleNotProduced := by decide
  runInv := fun _ =>
    { widthMul8 := by decide
      widthFits := by decide
      heightFits := by decide
      seqBound := by decide
      wordCount := by decide
      producedAtEnd := by decide
      tags := by
        intro pre e post h
        have hl : lastByteLeft.seq = lastByteLeft.prog.length := by decide
        simp only [lastByteLeft] at h
        cases pre with
        | nil =>
          simp only [List.nil_append, List.cons.injEq] at h
          obtain ⟨rfl, rfl⟩ := h
          simp [hl]
        | cons a pre => simp at h
      outAtEnd := by decide
      loaded := by
        intro t i h
        have hp : lastByteLeft.prog.take lastByteLeft.seq = hdrOps := by decide
        rw [hp] at h
        simp [hdrOps] at h }

/-- 8x3, started and nothing done: the premise of `EveryInterleavingDeliversTheStream`. -/
theorem jobStart_running : (running 8#32 3#32).JobStart where
  paramsLegal := by decide
  running := by decide
  widthMul8 := by decide
  widthFits := by decide
  heightFits := by decide
  atStart := by decide
  notProduced := by decide
  noCells := by decide
  noInput := by decide
  noOutput := by decide
  allRemain := by decide

/-! ### Witnesses: the hypotheses of each obligation are met, each clause at a boundary where it has one.
An obligation without hypotheses has none here. -/

theorem witness_DecodeOfEncodeIsTheInstruction :
    Instr.wf (.cmdReserved 0xFFFFFFFF#32) = true ∧ Instr.wf (.misalignedOdd false 15#4 true 0#32) = true ∧
      Instr.wf (.wrRsvdHi 3#2 0x80000000#32) = true := by decide

theorem witness_DecodedFramesAreCanonical :
    decode [0x7F#8, 1#8, 2#8, 3#8, 4#8] = .ok (.misalignedOdd true 15#4 true 0x04030201#32) := rfl

/-- A register access, a command, and each other kind of event. -/
theorem witness_StepRunsTheDecodedInstruction :
    fetchRequest State.reset.params (.access ⟨true, 0x20, 4, 0x81807F00#32⟩) =
        .frame [0x60#8, 0x00#8, 0x7F#8, 0x80#8, 0x81#8] ∧
      decode [0x60#8, 0x00#8, 0x7F#8, 0x80#8, 0x81#8] = .ok (.wrInData 0x81807F00#32) ∧
      fetchRequest State.reset.params (.command 1#32) = .frame [1#8, 0#8, 0#8, 0#8] ∧
      decode [1#8, 0#8, 0#8, 0#8] = .ok .start ∧
      State.reset.events = [] ∧
      ({ State.reset with events := [.engine, .reset] } : State).events = .engine :: [.reset] ∧
      ({ State.reset with events := [.reset] } : State).events = .reset :: [] :=
  ⟨rfl, rfl, rfl, rfl, rfl, rfl, rfl⟩

/-- The first and the last word of a window at 64. -/
theorem witness_AlignedWordAccessesCompleteInOneStep :
    let s : State := { State.reset with
      params := ⟨384, 16, 64, 64⟩, events := [hostRead 64, hostWrite 124 5#32] }
    s.events = .host (.access ⟨false, 64, 4, 0#32⟩) :: [hostWrite 124 5#32] ∧
      (64 ≤ 64 ∧ 64 < s.params.base + 64 ∧ (64 - s.params.base) % 4 = 0) ∧
      (s.params.base ≤ 124 ∧ 124 < s.params.base + 64 ∧ (124 - s.params.base) % 4 = 0) :=
  ⟨rfl, by decide, by decide⟩

/-- The last byte of the window, as a 32-bit access and as an 8-bit one. -/
theorem witness_MisalignedAndOddSizedAccessesAreRefused :
    State.reset.params.base ≤ 63 ∧ 63 < State.reset.params.base + 64 ∧
      (63 - State.reset.params.base) % 4 ≠ 0 ∧
      step { State.reset with events := [.host (.access ⟨false, 63, 4, 0#32⟩)] } = .refused .misaligned ∧
      step { State.reset with events := [.host (.access ⟨false, 63, 1, 0#32⟩)] } = .refused .accessSize :=
  ⟨by decide, by decide, by decide, rfl, rfl⟩

/-- One byte below and one byte above a window at 64. -/
theorem witness_AccessesOutsideTheWindowLeaveTheBlockAlone :
    let p : Params := ⟨384, 16, 64, 64⟩
    ¬ (p.base ≤ 63 ∧ 63 < p.base + 64) ∧ ¬ (p.base ≤ 128 ∧ 128 < p.base + 64) := by decide

theorem witness_RegisterReadsReturnTheirFields :
    (idle 8#32 3#32).Inv ∧ (idle 8#32 3#32).jobState ≠ .run :=
  ⟨by apply inv_of_idle <;> decide, by decide⟩

/-- Both FIFOs full, and the idle clause. -/
theorem witness_LevelsReadReturnsTheFifoLevels :
    (let s : State := { running 8#32 3#32 with
      params := ⟨384, 1, 2, 0⟩, inq := [7#32], outq := [⟨0#8, false⟩, ⟨1#8, false⟩] }
     s.params.legal ∧ s.inq.length ≤ s.params.inDepth ∧ s.outq.length ≤ s.params.outDepth) ∧
    State.reset.Inv ∧ State.reset.jobState ≠ .run :=
  ⟨by decide, inv_reset, by decide⟩

/-- Ignored; refused for each reason; accepted with one word to go and one place free. -/
theorem witness_InDataWriteIsIgnoredRefusedOrAccepted :
    State.reset.jobState ≠ .run ∧
    ((running 0#32 0#32).jobState = .run ∧ (running 0#32 0#32).inRemain = 0#32) ∧
    (let s : State := { running 8#32 3#32 with params := ⟨384, 1, 64, 0⟩, inq := [7#32] }
     s.jobState = .run ∧ s.inq.length = s.params.inDepth) ∧
    (let s : State := { running 8#32 3#32 with inRemain := 1#32, inq := List.replicate 15 0#32 }
     s.jobState = .run ∧ s.inRemain ≠ 0#32 ∧ s.inq.length ≠ s.params.inDepth) := by decide

theorem witness_OutDataReadPopsTheOldestByte :
    State.reset.outq = [] ∧ lastByteLeft.outq = ⟨0x00#8, true⟩ :: [] ∧
      ({ running 8#32 3#32 with outq := [⟨0x1D#8, false⟩] } : State).outq = ⟨0x1D#8, false⟩ :: [] := by decide

/-- The widest and highest job of the default parameters, and the empty one. -/
theorem witness_StartBeginsALegalJob :
    (let s := idle 384#32 65535#32
     s.jobState = .idle ∧ s.width.toNat % 8 = 0 ∧ s.width.toNat / 8 ≤ 65535 ∧ s.height.toNat ≤ 65535 ∧
       s.width.toNat ≤ s.params.wMax ∧ s.params.legal) ∧
    (let s := idle 0#32 0#32
     s.jobState = .idle ∧ s.width.toNat % 8 = 0 ∧ s.width.toNat / 8 ≤ 65535 ∧ s.height.toNat ≤ 65535 ∧
       s.width.toNat ≤ s.params.wMax ∧ s.params.legal) := by decide

/-- CM-3, DC-3, DC-7, DC-8 and DC-11. -/
theorem witness_StartRejectsBadDimensionsAndBusyStates :
    (running 8#32 3#32).jobState ≠ .idle ∧
    (idle 12#32 0#32).width.toNat % 8 ≠ 0 ∧
    ((idle 8#32 65536#32).width.toNat % 8 = 0 ∧ (idle 8#32 65536#32).height.toNat > 65535) ∧
    ((idle 524288#32 1#32).width.toNat % 8 = 0 ∧ (idle 524288#32 1#32).width.toNat / 8 > 65535) ∧
    ((idle 392#32 65535#32).jobState = .idle ∧ (idle 392#32 65535#32).width.toNat % 8 = 0 ∧
      (idle 392#32 65535#32).width.toNat / 8 ≤ 65535 ∧ (idle 392#32 65535#32).height.toNat ≤ 65535 ∧
      (idle 392#32 65535#32).width.toNat > (idle 392#32 65535#32).params.wMax) := by decide

theorem witness_ClearLeavesDoneAndError :
    finished.jobState = .done ∧ (failed .dimCapacity).jobState = .error ∧
      State.reset.jobState = .idle ∧ (running 8#32 3#32).jobState = .run := by decide

/-- The four words, the first reserved word and the last one. -/
theorem witness_WriteToCmdExecutesItsWord :
    (0#32 : Word) = 0#32 ∧ 3 < (4#32 : Word).toNat ∧ 3 < (0xFFFFFFFF#32 : Word).toNat := by decide

theorem witness_ErrorEntryFlushesAndRecords :
    (∃ t, exec .start (idle 12#32 0#32) = .next t ∧ decide (t.jobState = .error) = true) ∧
      (idle 12#32 0#32).jobState ≠ .error ∧ State.reset.jobState ≠ .run :=
  ⟨next_of_test (by decide), by decide, by decide⟩

/-- START with a bad width, and an overrun; the engine's turn of a running job. -/
theorem witness_OnlyStartAndOverrunRaiseErrors :
    (∃ t, exec .start (idle 12#32 0#32) = .next t ∧ decide (t.jobState = .error) = true) ∧
    (∃ t, exec (.wrInData 1#32) (running 0#32 0#32) = .next t ∧ decide (t.jobState = .error) = true) ∧
    (idle 12#32 0#32).jobState ≠ .error ∧ (running 0#32 0#32).jobState ≠ .error ∧
    ∃ t, engineTurn (running 8#32 3#32) = .next t ∧ decide (t.seq = 1) = true :=
  ⟨next_of_test (by decide), next_of_test (by decide), by decide, by decide, next_of_test (by decide)⟩

/-- A START, and the pop of the LAST byte. -/
theorem witness_StateChangesOnlyAsListed :
    State.reset.Inv ∧
    (∃ t, exec .start State.reset = .next t ∧ decide (t.jobState ≠ State.reset.jobState) = true) ∧
    lastByteLeft.Inv ∧
    (∃ t, exec .rdOutData lastByteLeft = .next t ∧ decide (t.jobState ≠ lastByteLeft.jobState) = true) ∧
    ∃ t, engineTurn lastByteLeft = .next t ∧ decide (t = lastByteLeft) = true :=
  ⟨inv_reset, next_of_test (by decide), inv_lastByteLeft, next_of_test (by decide), next_of_test (by decide)⟩

theorem witness_FifosChangeOnlyAsListed :
    (running 8#32 3#32).Inv ∧
    (∃ t, exec (.wrInData 1#32) (running 8#32 3#32) = .next t ∧
      decide (t.inq ≠ (running 8#32 3#32).inq) = true) ∧
    lastByteLeft.Inv ∧
    ∃ t, exec .rdOutData lastByteLeft = .next t ∧ decide (t.outq ≠ lastByteLeft.outq) = true :=
  ⟨inv_running, next_of_test (by decide), inv_lastByteLeft, next_of_test (by decide)⟩

theorem witness_CmdErrIsSetByBadCommandsAndClearedByClear :
    (∃ t, exec .start (running 8#32 3#32) = .next t ∧ decide (t.cmdErr = true) = true) ∧
    (running 8#32 3#32).cmdErr = false ∧
    isReservedCommand (.wrCmd 4#32) ∧ isClear (.wrCmd 3#32) ∧
    (∃ t, exec .clear { State.reset with cmdErr := true } = .next t ∧ decide (t.cmdErr = false) = true) ∧
    ∃ t, engineTurn (running 8#32 3#32) = .next t ∧ decide (t.seq = 1) = true :=
  ⟨next_of_test (by decide), by decide, ⟨_, by decide, .inr rfl⟩, .inr rfl, next_of_test (by decide),
    next_of_test (by decide)⟩

/-- CLEAR leaves ERROR; an IN_DATA write does not. -/
theorem witness_OnlyClearAbortAndResetLeaveError :
    (failed .inOverrun).jobState = .error ∧
    ({ failed .inOverrun with events := [.host (.command 3#32)] } : State).Inv ∧
    ({ failed .inOverrun with events := [hostWrite 0x20 1#32] } : State).Inv ∧
    (∃ t, step { failed .inOverrun with events := [.host (.command 3#32)] } = .next t ∧
      decide (t.jobState ≠ .error) = true) ∧
    ∃ t, step { failed .inOverrun with events := [hostWrite 0x20 1#32] } = .next t ∧
      decide (t.jobState = .error) = true :=
  ⟨by decide, inv_failed _, inv_failed _, next_of_test (by decide), next_of_test (by decide)⟩

theorem witness_ResetPutsEveryRegisterAtItsResetValue :
    let s : State := { running 8#32 3#32 with events := [.reset] }
    s.events = .reset :: [] ∧ ∃ t, step s = .next t ∧ decide (t.jobState = .idle) = true :=
  ⟨rfl, next_of_test (by decide)⟩

theorem witness_JobProgramHasTheStatedLengthAndEnd :
    0 % 8 = 0 ∧ 384 % 8 = 0 ∧ (jobProg 384 0).getLast? = some (.hdr 7) ∧
      (jobProg 8 3).getLast? = some (.pack 2 0) := by decide

/-- The first VISIT and the last, the first PACK and the last, of an 8x3 job. -/
theorem witness_RowsAreResidentWhenUsed :
    (jobProg 8 3)[14]? = some (.visit 0 0) ∧ (jobProg 8 3)[19]? = some (.visit 0 5) ∧
      (jobProg 8 3)[20]? = some (.pack 0 0) ∧ (jobProg 8 3)[22]? = some (.pack 2 0) := by decide

theorem witness_EngineStepsExactlyWhenEnabled :
    (running 8#32 3#32).engineEnabled = true ∧
    ({ running 8#32 3#32 with seq := 8 } : State).engineEnabled = false ∧
    ∃ t, engineTurn (running 8#32 3#32) = .next t ∧ decide (t.seq = 1) = true :=
  ⟨by decide, by decide, next_of_test (by decide)⟩

/-- HDR(0), and the HDR(7) that ends a job. -/
theorem witness_HdrPushesItsHeaderByte :
    ((running 8#32 3#32).jobState = .run ∧ (running 8#32 3#32).prog[(running 8#32 3#32).seq]? = some (.hdr 0) ∧
      (running 8#32 3#32).outq.length < (running 8#32 3#32).params.outDepth) ∧
    (let s : State := { running 384#32 0#32 with seq := 7, outq := List.replicate 63 ⟨0#8, false⟩ }
     s.jobState = .run ∧ s.prog[s.seq]? = some (.hdr 7) ∧ s.outq.length < s.params.outDepth) := by decide

/-- The last LOAD of an 8x1 job in a row buffer of eight columns. -/
theorem witness_LoadStoresFourPixels :
    let s : State := { running 8#32 1#32 with params := ⟨8, 16, 64, 0⟩, seq := 9, inq := [1#32] }
    s.jobState = .run ∧ s.prog[s.seq]? = some (.load 0 1) ∧ s.inq = 1#32 :: [] ∧
      4 * 1 + 3 < s.params.wMax := by decide

theorem witness_PackPushesItsEightPixels :
    (packJob 200).jobState = .run ∧ (packJob 200).prog[(packJob 200).seq]? = some (.pack 0 0) ∧
      (packJob 200).outq.length < (packJob 200).params.outDepth ∧ 8 * 0 + 7 < (packJob 200).params.wMax ∧
      ∀ i, i < 8 → ∃ c, (packJob 200).rowbuf.read (rowCellAddr 0 (8 * 0 + i)) = some c ∧ c.toInt = 200 := by
  refine ⟨by decide, by decide, by decide, by decide, fun i hi => ?_⟩
  interval_cases i <;> exact ⟨200#10, by decide, by decide⟩

theorem witness_VisitDiffusesItsError :
    (loadedJob 200).jobState = .run ∧ (loadedJob 200).prog[(loadedJob 200).seq]? = some (.visit 0 0) ∧
      8 ≤ (loadedJob 200).jw.toNat ∧ (loadedJob 200).jw.toNat ≤ (loadedJob 200).params.wMax ∧
      (loadedJob 200).params.wMax ≤ 65528 ∧
      ∀ t col, 0 ≤ t → t ≤ 0 + 2 → col < (loadedJob 200).jw.toNat →
        ((loadedJob 200).rowbuf.read (rowCellAddr t col)).isSome = true := by
  refine ⟨by decide, by decide, by decide, by decide, by decide, fun t col _ ht hc => ?_⟩
  have hc : col < 8 := hc
  interval_cases t <;> interval_cases col <;> decide

/-- A LOAD, which removes a word, and a PACK, which appends a byte. -/
theorem witness_EngineLeavesTheHostsStateAlone :
    (∃ t, engineTurn { running 8#32 1#32 with seq := 8, inq := [1#32] } = .next t ∧
      decide (t.inq = []) = true) ∧
    ∃ t, engineTurn (packJob 0) = .next t ∧ decide (t.outq = [⟨0xFF#8, false⟩]) = true :=
  ⟨next_of_test (by decide), next_of_test (by decide)⟩

theorem witness_DiffTruncatesTheSumTowardZero :
    (0 : Int) ≤ 48 * 5 + 1 * (-7) ∧ (48 * 0 + 7 * (-126) : Int) < 0 := by decide

theorem witness_DiffusionFitsTheDatapath :
    (⟨1, 0, 7⟩ : KernelEntry) ∈ kernel ∧ (-128 : Int) ≤ -128 ∧ (383 : Int) ≤ 383 ∧ (128 : Int) ≤ 128 := by decide

/-- The first and the last visited column of the narrowest image, both policies; and an entry that just stays
in the image, one that just leaves it, both of the kernel. -/
theorem witness_VisitTargetsAreDistinctAndLater :
    ((⟨-2, 1, 3⟩ : KernelEntry) ∈ kernel ∧ (0 : Int) ≤ (2 : Nat) + -2 ∧ ((1 : Nat) : Int) + -2 < 0) ∧
    8 ≤ 8 ∧ 0 + 3 ≤ 8 ∧ 5 + 3 ≤ 8 ∧ (kernel.filterMap (target 0 0 8 false)).length = 8 ∧
      (kernel.filterMap (target 0 0 8 true)).length = 12 := by decide

theorem witness_HeaderEncodesModeAndDimensions : 65528 / 8 ≤ 65535 ∧ 65535 ≤ 65535 := by decide

theorem witness_StreamBytesHoldTheirPixels : 2 < 3 ∧ 0 < 8 / 8 := by decide

/-- Empty, one column of bytes, with and without visits. -/
theorem witness_WhiteAndBlackImagesStayPlain : 0 % 8 = 0 ∧ 8 % 8 = 0 := by decide

theorem witness_VisitedPixelsEndBlackOrWhite :
    (Image.ofPixels 8 3 fun _ _ => 100).hasSize 8 3 ∧ 8 % 8 = 0 ∧ 0 + 3 ≤ 3 ∧ 5 + 3 ≤ 8 :=
  ⟨⟨by decide, by decide⟩, by decide, by decide, by decide⟩

theorem witness_DitheringStaysInRange :
    (Image.ofPixels 0 0 fun _ _ => 0).hasSize 0 0 ∧ (Image.ofPixels 8 3 fun _ _ => 255).hasSize 8 3 ∧
      ∀ y x, 0 ≤ Image.get (Image.ofPixels 8 3 fun _ _ => 255) y x ∧
        Image.get (Image.ofPixels 8 3 fun _ _ => 255) y x ≤ 255 := by
  refine ⟨⟨by decide, by decide⟩, ⟨by decide, by decide⟩, fun y x => ?_⟩
  simp only [Image.get, Image.ofPixels, List.getD_eq_getElem?_getD, List.getElem?_map]
  rcases Nat.lt_or_ge y 3 with hy | hy
  · rcases Nat.lt_or_ge x 8 with hx | hx
    · interval_cases x <;> simp [hy]
    · simp [hy, hx]
  · simp [hy]

/-- An 8x3 job with its six words queued. -/
theorem witness_EngineRunPushesTheStream :
    let s : State := { running 8#32 3#32 with inq := List.replicate 6 0x64646464#32 }
    s.params.legal ∧ s.jobState = .run ∧ s.jw.toNat % 8 = 0 ∧ s.jw.toNat ≤ s.params.wMax ∧
      s.jh.toNat ≤ 65535 ∧ s.seq = 0 ∧ s.produced = false ∧ s.rowbuf = [] ∧ s.outq = [] ∧ s.events = [] ∧
      s.inq.length = s.jw.toNat * s.jh.toNat / 4 ∧
      8 + s.jw.toNat / 8 * s.jh.toNat ≤ s.params.outDepth := by decide

/-- The job of P7, its engine steps and its eight reads of OUT_DATA to come: after eight steps it is RUN
with all produced, after sixteen it is DONE. -/
def headerOnlyJob : State :=
  { running 384#32 0#32 with events := List.replicate 8 .engine ++ List.replicate 8 (hostRead 0x24) }

theorem witness_EveryInterleavingDeliversTheStream :
    headerOnlyJob.JobStart ∧ headerOnlyJob.trace = [] ∧
    ([] : List Word).length = headerOnlyJob.jw.toNat * headerOnlyJob.jh.toNat / 4 ∧
    (∀ e ∈ headerOnlyJob.events, isStreaming headerOnlyJob.params e) ∧
    headerOnlyJob.events.filterMap (Event.inWord headerOnlyJob.params) <+: [] ∧
    (∃ t, Sys2Proof.core.run 8 headerOnlyJob = .next t ∧
      decide (t.jobState = .run ∧ t.produced = true ∧ t.outq.length = 8) = true) ∧
    ∃ t, Sys2Proof.core.run 16 headerOnlyJob = .next t ∧
      decide (t.jobState = .done ∧ (delivered t.trace).length = 8) = true := by
  refine ⟨?_, rfl, by decide, fun e he => ?_, by decide, next_of_test (by decide), next_of_test (by decide)⟩
  · constructor <;> decide
  · simp only [headerOnlyJob, List.mem_append, List.mem_replicate] at he
    rcases he with ⟨-, rfl⟩ | ⟨-, rfl⟩
    · exact .inl rfl
    · exact .inr ⟨false, 0x24, 0#32, by decide, by decide, by decide, rfl⟩

/-- A fed job: the words its events offer are the first of the job's words. -/
theorem witness_EveryInterleavingDeliversTheStream_fed :
    let s : State := { running 8#32 3#32 with events := [.engine, hostWrite 0x20 1#32, hostWrite 0x10 16#32] }
    s.events.filterMap (Event.inWord s.params) <+: [1#32, 2#32, 3#32, 4#32, 5#32, 6#32] ∧
    ([1#32, 2#32, 3#32, 4#32, 5#32, 6#32] : List Word).length = s.jw.toNat * s.jh.toNat / 4 ∧
    isStreaming s.params (hostWrite 0x20 1#32) ∧ isStreaming s.params (hostWrite 0x10 16#32) :=
  ⟨by decide, by decide, .inr ⟨true, 0x20, 1#32, by decide, by decide, by decide, rfl⟩,
    .inr ⟨true, 0x10, 16#32, by decide, by decide, by decide, rfl⟩⟩

/-- HDR(1) with a byte queued, room for input. -/
theorem witness_EngineStepsCommuteWithDataAccesses :
    let s : State := { running 8#32 3#32 with seq := 1, outq := [⟨0x1D#8, false⟩] }
    s.engineEnabled = true ∧ (∃ t, engineTurn s = .next t ∧ decide (t.seq = 2) = true) ∧
      s.inRemain ≠ 0#32 ∧ s.inq.length < s.params.inDepth ∧ s.outq = ⟨0x1D#8, false⟩ :: [] :=
  ⟨by decide, next_of_test (by decide), by decide, by decide, rfl⟩

theorem witness_InvariantHoldsAfterReset : Params.default.legal ∧ Params.legal ⟨65528, 65535, 65535, 128⟩ := by
  decide

theorem witness_EveryStepKeepsTheInvariant :
    (running 8#32 3#32).Inv ∧ ∃ t, step (running 8#32 3#32) = .next t ∧ decide (t.seq = 1) = true :=
  ⟨inv_running, next_of_test (by decide)⟩

theorem witness_NoStepFromTheInvariantFaults : (running 8#32 3#32).Inv ∧ lastByteLeft.Inv :=
  ⟨inv_running, inv_lastByteLeft⟩

/-- An 8x3 job started from reset, its header produced, one word written and loaded: a cell holds 255. -/
def oneWordLoaded : List Event :=
  [hostWrite 0x10 8#32, hostWrite 0x14 3#32, .host (.command 1#32), hostWrite 0x20 0xFFFFFFFF#32] ++
    List.replicate 9 .engine

theorem witness_ReachableCellsStayInRange :
    ∃ s, Reachable s ∧ decide (s.rowbuf.read 0 = some 255#10) = true := by
  obtain ⟨s, h, hs⟩ := next_of_test (o := Sys2Proof.core.run 13 (State.boot Params.default oneWordLoaded))
    (p := fun s => decide (s.rowbuf.read 0 = some 255#10)) (by decide)
  exact ⟨s, ⟨_, _, _, by decide, h⟩, hs⟩

theorem witness_StepsKeepMemoryCanonicalAndParametersFixed :
    (loadedJob 200).rowbuf.wf = true ∧ ∃ t, step (loadedJob 200) = .next t ∧ decide (t.seq = 15) = true :=
  ⟨by decide, next_of_test (by decide)⟩

theorem witness_RunningJobKeepsItsLatches :
    (∃ t, exec (.wrWidth 16#32) (running 8#32 3#32) = .next t ∧ decide (t.jobState = .run) = true) ∧
    ∃ t, engineTurn (running 8#32 3#32) = .next t ∧ decide (t.seq = 1) = true :=
  ⟨next_of_test (by decide), next_of_test (by decide)⟩

theorem witness_FlowControlledWritesAreAccepted :
    (running 8#32 3#32).Inv ∧ (running 8#32 3#32).jobState = .run ∧ (running 8#32 3#32).events = [] ∧
    (running 8#32 3#32).inq.length < (running 8#32 3#32).params.inDepth ∧
    (running 8#32 3#32).inRemain ≠ 0#32 ∧
    ∃ t, Sys2Proof.core.run 9 (running 8#32 3#32) = .next t ∧ decide (t.seq = 8) = true :=
  ⟨inv_running, by decide, by decide, by decide, by decide, next_of_test (by decide)⟩

theorem witness_UnfinishedJobsProgressOrWaitForTheHost :
    (running 8#32 3#32).Inv ∧ (running 8#32 3#32).jobState = .run ∧
      (running 8#32 3#32).seq < (running 8#32 3#32).prog.length :=
  ⟨inv_running, by decide, by decide⟩

end Sys2Proof.Tests
end

/-! What an instruction does beside the host's observation, and O57: parameters and canonical form. -/

namespace Sys2Proof.Machine

/-! ### What the branching host operations do to the parameters and ROWBUF -/

@[simp] theorem cmdStart_params (s : State) : (cmdStart s).params = s.params := by
  obtain ⟨-, h⟩ | ⟨-, -, h⟩ | ⟨-, -, h⟩ := cmdStart_cases s <;> simp [h]

theorem cmdStart_rowbuf (s : State) : (cmdStart s).rowbuf = s.rowbuf ∨ (cmdStart s).rowbuf = [] := by
  obtain ⟨-, h⟩ | ⟨-, -, h⟩ | ⟨-, -, h⟩ := cmdStart_cases s <;> simp [h]

@[simp] theorem executeCommand_params (v : Word) (s : State) : (executeCommand v s).params = s.params := by
  obtain ⟨-, h⟩ | ⟨-, h⟩ | ⟨-, h⟩ | ⟨-, h⟩ | ⟨-, h⟩ := executeCommand_cases v s <;> simp [h]

theorem executeCommand_rowbuf (v : Word) (s : State) :
    (executeCommand v s).rowbuf = s.rowbuf ∨ (executeCommand v s).rowbuf = [] := by
  obtain ⟨-, h⟩ | ⟨-, h⟩ | ⟨-, h⟩ | ⟨-, h⟩ | ⟨-, h⟩ := executeCommand_cases v s <;>
    simp [h, cmdStart_rowbuf]

@[simp] theorem acceptInData_params (v : Word) (s : State) : (acceptInData v s).params = s.params := by
  obtain ⟨-, h⟩ | ⟨-, -, h⟩ | ⟨-, -, -, h⟩ := acceptInData_cases v s <;> simp [h]

theorem acceptInData_rowbuf (v : Word) (s : State) :
    (acceptInData v s).rowbuf = s.rowbuf ∨ (acceptInData v s).rowbuf = [] := by
  obtain ⟨-, h⟩ | ⟨-, -, h⟩ | ⟨-, -, -, h⟩ := acceptInData_cases v s <;> simp [h]

/-! ### The effect of an instruction -/

/-- The effect of an OUT_DATA read: the oldest entry is popped, where there is one (40 R119). -/
def popOldest (s : State) : State :=
  match s.outq with
  | [] => s
  | e :: rest => s.popOut e rest

theorem execRdOutData_eq (s : State) : ∃ v, execRdOutData s = readDone 0x24#7 v (popOldest s) := by
  cases hq : s.outq with
  | nil => exact ⟨0#32, by simp [execRdOutData, popOldest, hq]⟩
  | cons e rest => exact ⟨outDataWord e, by simp [execRdOutData, popOldest, hq]⟩

@[simp] theorem popOldest_params (s : State) : (popOldest s).params = s.params := by
  unfold popOldest
  split <;> simp

@[simp] theorem popOldest_rowbuf (s : State) : (popOldest s).rowbuf = s.rowbuf := by
  unfold popOldest
  split <;> simp

/-- The state an instruction leaves before the host's observation is recorded. The rows that are not named
read a register, write one that ignores writes, do nothing (NOP) or are refused (MISALIGNED). -/
def instrEffect (i : Instr) (s : State) : State :=
  match i with
  | .wrCmd v => executeCommand v s
  | .wrConfig v => { s with dw := configDW v, dh := configDH v, leftWrap := configLeftWrap v }
  | .wrWidth v => { s with width := v }
  | .wrHeight v => { s with height := v }
  | .wrIrqEn v => { s with doneEn := irqEnDone v, errEn := irqEnErr v, cmdErrEn := irqEnCmdErr v }
  | .wrInData v => acceptInData v s
  | .rdOutData => popOldest s
  | .start => cmdStart s
  | .abort => s.abortJob
  | .clear => s.clearErrors
  | .cmdReserved _ => s.setCmdErr
  | _ => s

/-- An instruction that answers a state leaves its effect, observed once (70 R281). -/
theorem exec_next {i : Instr} {s t : State} (h : exec i s = .next t) :
    ∃ sel r, t = (instrEffect i s).observe sel r := by
  cases i
  case misalignedOdd => cases h
  case misalignedTwo => cases h
  case rdOutData =>
    obtain ⟨v, hv⟩ := execRdOutData_eq s
    cases hv.symm.trans h
    exact ⟨_, _, rfl⟩
  all_goals cases h; exact ⟨_, _, rfl⟩

@[simp] theorem instrEffect_params (i : Instr) (s : State) : (instrEffect i s).params = s.params := by
  cases i
  case wrCmd v => exact executeCommand_params v s
  case wrInData v => exact acceptInData_params v s
  case rdOutData => exact popOldest_params s
  case start => exact cmdStart_params s
  case clear => exact State.clearErrors_params s
  all_goals rfl

/-- The host reaches ROWBUF only to empty it (START, ABORT, the error entry). -/
theorem instrEffect_rowbuf (i : Instr) (s : State) :
    (instrEffect i s).rowbuf = s.rowbuf ∨ (instrEffect i s).rowbuf = [] := by
  cases i
  case wrCmd v => exact executeCommand_rowbuf v s
  case wrInData v => exact acceptInData_rowbuf v s
  case rdOutData => exact .inl (popOldest_rowbuf s)
  case start => exact cmdStart_rowbuf s
  case abort => exact .inr rfl
  case clear => exact .inl (State.clearErrors_rowbuf s)
  all_goals exact .inl rfl

/-! ### Parameters and canonical form under each kind of step -/

/-- From `s` to `t` the parameters stay (00 R9), and so does the canonical form of ROWBUF (10 R39). -/
def KeepsParamsAndWf (s t : State) : Prop :=
  t.params = s.params ∧ (s.rowbuf.wf = true → t.rowbuf.wf = true)

theorem keepsParamsAndWf_of_rowbuf {s t : State} (hp : t.params = s.params)
    (hm : t.rowbuf = s.rowbuf ∨ t.rowbuf = []) : KeepsParamsAndWf s t := by
  refine ⟨hp, fun hwf => ?_⟩
  obtain h | h := hm
  · rwa [h]
  · rw [h]; exact Memory.wf_nil

theorem exec_keepsParamsAndWf {i : Instr} {s t : State} (h : exec i s = .next t) :
    KeepsParamsAndWf s t := by
  obtain ⟨sel, r, rfl⟩ := exec_next h
  exact keepsParamsAndWf_of_rowbuf (instrEffect_params i s) (instrEffect_rowbuf i s)

theorem hostStep_keepsParamsAndWf {r : HostRequest} {s t : State} (h : hostStep r s = .next t) :
    KeepsParamsAndWf s t := by
  obtain ⟨-, rfl⟩ | ⟨_, _, -, -, hx⟩ := hostStep_next h
  · exact keepsParamsAndWf_of_rowbuf rfl (.inl rfl)
  · exact exec_keepsParamsAndWf hx

theorem microOp_keepsParamsAndWf {op : MicroOp} {s t : State} (hg : guard op s = true)
    (h : microOp op s = .ok t) : KeepsParamsAndWf s t := by
  obtain ⟨k, -, rfl⟩ | ⟨_, _, w, rest, m, -, -, hl, rfl⟩ | ⟨y, x, m, -, hv, rfl⟩ |
    ⟨y, b, byte, -, -, rfl⟩ := microOp_ok hg h
  · exact keepsParamsAndWf_of_rowbuf rfl (.inl rfl)
  · exact ⟨rfl, fun hwf => loadCells_wf hwf hl⟩
  · exact ⟨rfl, fun hwf => visitCells_wf hwf hv⟩
  · exact keepsParamsAndWf_of_rowbuf rfl (.inl rfl)

theorem engineTurn_keepsParamsAndWf {s t : State} (h : engineTurn s = .next t) :
    KeepsParamsAndWf s t := by
  obtain ⟨rfl, -⟩ | ⟨op, -, hg, ho⟩ := engineTurn_next h
  · exact keepsParamsAndWf_of_rowbuf rfl (.inl rfl)
  · exact microOp_keepsParamsAndWf hg ho

/-- Settles O57: of the three kinds of step only the engine's LOAD and VISIT write cells, and each goes
through `Memory.write`; the host's instructions and reset leave ROWBUF alone or empty it. -/
theorem stepsKeepMemoryCanonicalAndParametersFixed :
    Obligations.StepsKeepMemoryCanonicalAndParametersFixed := by
  intro s t h
  obtain ⟨-, he⟩ | ⟨rest, -, he⟩ | ⟨r, rest, -, hh⟩ | ⟨rest, -, rfl⟩ := step_next h
  · exact engineTurn_keepsParamsAndWf he
  · exact (engineTurn_keepsParamsAndWf he :)
  · exact (hostStep_keepsParamsAndWf hh :)
  · exact keepsParamsAndWf_of_rowbuf rfl (.inr rfl)

end Sys2Proof.Machine

/-! What the host's instructions and the engine can do to the block, said once branch by branch, and from
it O26 (STATE), O29 (CMD_ERR) and O58 (the latches of a running job). -/

namespace Sys2Proof.Machine

/-! ### Every effect of an instruction -/

/-- `s` with the host's own registers (CONFIG, WIDTH, HEIGHT, IRQ_EN) taken from `r`. -/
def State.withHostRegs (s r : State) : State :=
  { s with
    dw := r.dw, dh := r.dh, leftWrap := r.leftWrap, width := r.width, height := r.height
    doneEn := r.doneEn, errEn := r.errEn, cmdErrEn := r.cmdErrEn }

/-- What an instruction `i` can leave of the block in state `s`: one case for each branch of a command
(41), of an IN_DATA write (40 R116) and of an OUT_DATA read (40 R119), and one for the rest. -/
inductive HostEffect (s : State) (i : Instr) : State → Prop where
  /-- At most CONFIG, WIDTH, HEIGHT or IRQ_EN is written. -/
  | registers (r : State) : HostEffect s i (s.withHostRegs r)
  | badCommand (hi : isReservedCommand i ∨ (∃ v, i = .cmdReserved v) ∨ (isStart i ∧ s.jobState ≠ .idle)) :
      HostEffect s i s.setCmdErr
  | startJob (hi : isStart i) (hj : s.jobState = .idle)
      (hd : dimCheck s.params.wMax s.width.toNat s.height.toNat = .none) : HostEffect s i s.beginJob
  | startError (hi : isStart i) (hj : s.jobState = .idle)
      (hd : dimCheck s.params.wMax s.width.toNat s.height.toNat ≠ .none) :
      HostEffect s i (s.raiseError (dimCheck s.params.wMax s.width.toNat s.height.toNat))
  | abort (hi : isAbort i) : HostEffect s i s.abortJob
  | clearEnded (hi : isClear i) (hj : s.jobState = .done ∨ s.jobState = .error) :
      HostEffect s i { s with cmdErr := false, jobState := .idle, errCode := .none, produced := false }
  | clearFlag (hi : isClear i) (hj : ¬ (s.jobState = .done ∨ s.jobState = .error)) :
      HostEffect s i { s with cmdErr := false }
  | acceptWord (v : Word) (hi : i = .wrInData v) (hj : s.jobState = .run) (hr : s.inRemain ≠ 0#32)
      (hq : s.inq.length ≠ s.params.inDepth) :
      HostEffect s i { s.inPush v with inRemain := s.inRemain - 1#32 }
  | overrun (v : Word) (hi : i = .wrInData v) (hj : s.jobState = .run)
      (hf : s.inRemain = 0#32 ∨ s.inq.length = s.params.inDepth) : HostEffect s i (s.raiseError .inOverrun)
  | popByte (e : OutEntry) (rest : List OutEntry) (hi : i = .rdOutData) (hq : s.outq = e :: rest)
      (he : e.last = false) : HostEffect s i { s with outq := rest }
  | popLast (e : OutEntry) (rest : List OutEntry) (hi : i = .rdOutData) (hq : s.outq = e :: rest)
      (he : e.last = true) : HostEffect s i { s.leaveRun with outq := rest, jobState := .done }

/-- The effect `s` itself is the case in which no register is written. -/
theorem hostEffect_self (s : State) (i : Instr) : HostEffect s i s := .registers s

theorem hostEffect_cmdStart {s : State} {i : Instr} (hi : isStart i) : HostEffect s i (cmdStart s) := by
  obtain ⟨hj, h⟩ | ⟨hj, hd, h⟩ | ⟨hj, hd, h⟩ := cmdStart_cases s
  · rw [h]; exact .badCommand (.inr (.inr ⟨hi, hj⟩))
  · rw [h]; exact .startJob hi hj hd
  · rw [h]; exact .startError hi hj hd

theorem hostEffect_clearErrors {s : State} {i : Instr} (hi : isClear i) : HostEffect s i s.clearErrors := by
  unfold State.clearErrors
  split
  case isTrue hj => exact .clearEnded hi hj
  case isFalse hj => exact .clearFlag hi hj

theorem hostEffect_executeCommand (v : Word) (s : State) :
    HostEffect s (.wrCmd v) (executeCommand v s) := by
  obtain ⟨-, h⟩ | ⟨rfl, h⟩ | ⟨rfl, h⟩ | ⟨rfl, h⟩ | ⟨hv, h⟩ := executeCommand_cases v s
  all_goals rw [h]
  · exact hostEffect_self s _
  · exact hostEffect_cmdStart (.inr rfl)
  · exact .abort (.inr rfl)
  · exact hostEffect_clearErrors (.inr rfl)
  · exact .badCommand (.inl ⟨v, hv, .inr rfl⟩)

theorem hostEffect_acceptInData (v : Word) (s : State) :
    HostEffect s (.wrInData v) (acceptInData v s) := by
  obtain ⟨-, h⟩ | ⟨hj, hf, h⟩ | ⟨hj, hr, hq, h⟩ := acceptInData_cases v s
  all_goals rw [h]
  · exact hostEffect_self s _
  · exact .overrun v rfl hj hf
  · exact .acceptWord v rfl hj hr hq

theorem hostEffect_popOldest (s : State) : HostEffect s .rdOutData (popOldest s) := by
  unfold popOldest State.popOut
  split
  · exact hostEffect_self s _
  · next e rest hq =>
    split
    case isTrue he => exact .popLast e rest rfl hq he
    case isFalse he => exact .popByte e rest rfl hq (by simpa using he)

theorem instrEffect_hostEffect (i : Instr) (s : State) : HostEffect s i (instrEffect i s) := by
  cases i
  case wrCmd v => exact hostEffect_executeCommand v s
  case wrInData v => exact hostEffect_acceptInData v s
  case rdOutData => exact hostEffect_popOldest s
  case start => exact hostEffect_cmdStart (.inl rfl)
  case abort => exact .abort (.inl rfl)
  case clear => exact hostEffect_clearErrors (.inl rfl)
  case cmdReserved v => exact .badCommand (.inr (.inl ⟨v, rfl⟩))
  case wrConfig v => exact .registers { s with dw := configDW v, dh := configDH v, leftWrap := configLeftWrap v }
  case wrWidth v => exact .registers { s with width := v }
  case wrHeight v => exact .registers { s with height := v }
  case wrIrqEn v =>
    exact .registers { s with doneEn := irqEnDone v, errEn := irqEnErr v, cmdErrEn := irqEnCmdErr v }
  all_goals exact hostEffect_self s _

/-- Whatever an instruction answers is one of its effects, observed once (70 R281). -/
theorem exec_hostEffect {i : Instr} {s t : State} (h : exec i s = .next t) :
    ∃ u sel r, HostEffect s i u ∧ t = u.observe sel r := by
  obtain ⟨sel, r, ht⟩ := exec_next h
  exact ⟨_, sel, r, instrEffect_hostEffect i s, ht⟩

/-! ### The effect of a given command -/

theorem executeCommand_start (s : State) : executeCommand 1#32 s = cmdStart s := by
  simp [executeCommand]

theorem executeCommand_clear (s : State) : executeCommand 3#32 s = s.clearErrors := by
  simp [executeCommand]

theorem executeCommand_reserved {v : Word} (hv : isCommandWord v = false) (s : State) :
    executeCommand v s = s.setCmdErr := by
  simp only [isCommandWord, decide_eq_false_iff_not, not_or] at hv
  simp [executeCommand, hv]

theorem instrEffect_of_isStart {i : Instr} (hi : isStart i) (s : State) : instrEffect i s = cmdStart s := by
  obtain rfl | rfl := hi
  · rfl
  · exact executeCommand_start s

theorem instrEffect_of_isClear {i : Instr} (hi : isClear i) (s : State) :
    instrEffect i s = s.clearErrors := by
  obtain rfl | rfl := hi
  · rfl
  · exact executeCommand_clear s

theorem instrEffect_of_isReservedCommand {i : Instr} (hi : isReservedCommand i) (s : State) :
    instrEffect i s = s.setCmdErr := by
  obtain ⟨v, hv, rfl | rfl⟩ := hi
  · rfl
  · exact executeCommand_reserved hv s

theorem cmdStart_of_not_idle {s : State} (hj : s.jobState ≠ .idle) : cmdStart s = s.setCmdErr := by
  simp [cmdStart, hj]

/-! ### The frame of the engine -/

/-- `s` with the engine's own state taken from `r` (42 R171). -/
def State.withEngineState (s r : State) : State :=
  { s with produced := r.produced, inq := r.inq, outq := r.outq, seq := r.seq, rowbuf := r.rowbuf }

theorem engineTurn_frame {s t : State} (h : engineTurn s = .next t) : t = s.withEngineState t := by
  obtain ⟨rfl, -⟩ | ⟨op, -, hg, ho⟩ := engineTurn_next h
  · rfl
  · obtain ⟨_, -, rfl⟩ | ⟨_, _, _, _, _, -, -, -, rfl⟩ | ⟨_, _, _, -, -, rfl⟩ | ⟨_, _, _, -, -, rfl⟩ :=
      microOp_ok hg ho <;> rfl

/-! ### The obligations -/

theorem exec_changes_jobState {i : Instr} {s t : State} (hinv : s.Inv) (h : exec i s = .next t)
    (hne : t.jobState ≠ s.jobState) :
    (isStart i ∧ s.jobState = .idle ∧ (t.jobState = .run ∨ t.jobState = .error)) ∨
    (isAbort i ∧ t.jobState = .idle) ∨
    (isClear i ∧ (s.jobState = .done ∨ s.jobState = .error) ∧ t.jobState = .idle) ∨
    (i = .rdOutData ∧ (∃ e rest, s.outq = e :: rest ∧ e.last = true) ∧ s.jobState = .run ∧
      t.jobState = .done) ∨
    (∃ v, i = .wrInData v ∧ s.jobState = .run ∧ t.jobState = .error) := by
  obtain ⟨u, sel, r, hu, rfl⟩ := exec_hostEffect h
  cases hu with
  | startJob hi hj => exact .inl ⟨hi, hj, .inl rfl⟩
  | startError hi hj => exact .inl ⟨hi, hj, .inr rfl⟩
  | abort hi => exact .inr (.inl ⟨hi, rfl⟩)
  | clearEnded hi hj => exact .inr (.inr (.inl ⟨hi, hj, rfl⟩))
  | popLast e rest hi hq he =>
    have hrun : s.jobState = .run := by
      by_contra hj
      simp [hinv.outqIdle hj] at hq
    exact .inr (.inr (.inr (.inl ⟨hi, ⟨e, rest, hq, he⟩, hrun, rfl⟩)))
  | overrun v hi hj => exact .inr (.inr (.inr (.inr ⟨v, hi, hj, rfl⟩)))
  | registers => exact absurd rfl hne
  | badCommand => exact absurd rfl hne
  | clearFlag => exact absurd rfl hne
  | acceptWord => exact absurd rfl hne
  | popByte => exact absurd rfl hne

/-- Settles O26, by the effects of an instruction; the invariant says that a popped byte is popped in RUN. -/
theorem stateChangesOnlyAsListed : Obligations.StateChangesOnlyAsListed :=
  ⟨by decide, fun _ _ _ hinv h hne => exec_changes_jobState hinv h hne,
    fun _ _ h => (congrArg State.jobState (engineTurn_frame h) :), State.resetBlock_jobState⟩

theorem exec_sets_cmdErr {i : Instr} {s t : State} (h : exec i s = .next t) (hs : s.cmdErr = false)
    (ht : t.cmdErr = true) :
    (isReservedCommand i ∨ (∃ v, i = .cmdReserved v) ∨ (isStart i ∧ s.jobState ≠ .idle)) ∧
      t.jobState = s.jobState := by
  have hsame : t.cmdErr ≠ s.cmdErr := by simp [hs, ht]
  obtain ⟨u, sel, r, hu, rfl⟩ := exec_hostEffect h
  cases hu with
  | badCommand hi => exact ⟨hi, rfl⟩
  | clearEnded => simp at ht
  | clearFlag => simp at ht
  | _ => simp [State.withHostRegs, State.inPush] at hsame

theorem exec_clears_cmdErr {i : Instr} {s t : State} (h : exec i s = .next t) (hs : s.cmdErr = true)
    (ht : t.cmdErr = false) : isClear i := by
  have hsame : t.cmdErr ≠ s.cmdErr := by simp [hs, ht]
  obtain ⟨u, sel, r, hu, rfl⟩ := exec_hostEffect h
  cases hu with
  | clearEnded hi => exact hi
  | clearFlag hi => exact hi
  | badCommand => simp [State.setCmdErr] at ht
  | _ => simp [State.withHostRegs, State.inPush] at hsame

theorem exec_badCommand {i : Instr} {s t : State} (h : exec i s = .next t)
    (hi : isReservedCommand i ∨ (isStart i ∧ s.jobState ≠ .idle)) :
    t.cmdErr = true ∧ t.jobState = s.jobState := by
  have heff : instrEffect i s = s.setCmdErr := by
    obtain hi | ⟨hi, hj⟩ := hi
    · exact instrEffect_of_isReservedCommand hi s
    · rw [instrEffect_of_isStart hi, cmdStart_of_not_idle hj]
  obtain ⟨sel, r, rfl⟩ := exec_next h
  rw [heff]
  exact ⟨rfl, rfl⟩

theorem exec_clear_cmdErr {i : Instr} {s t : State} (h : exec i s = .next t) (hi : isClear i) :
    t.cmdErr = false := by
  obtain ⟨sel, r, rfl⟩ := exec_next h
  simp [instrEffect_of_isClear hi]

/-- Settles O29, by the effects of an instruction: only a bad command's effect sets CMD_ERR, and only
CLEAR's two effects write it 0. -/
theorem cmdErrIsSetByBadCommandsAndClearedByClear :
    Obligations.CmdErrIsSetByBadCommandsAndClearedByClear :=
  ⟨fun _ _ _ => exec_sets_cmdErr, fun _ _ _ => exec_badCommand, fun _ _ _ => exec_clears_cmdErr,
    fun _ _ _ => exec_clear_cmdErr, fun _ _ h => (congrArg State.cmdErr (engineTurn_frame h) :),
    State.resetBlock_cmdErr⟩

theorem exec_keeps_job {i : Instr} {s t : State} (h : exec i s = .next t) (hs : s.jobState = .run)
    (ht : t.jobState = .run) :
    t.jw = s.jw ∧ t.jh = s.jh ∧ t.jdw = s.jdw ∧ t.jdh = s.jdh ∧ t.jwrap = s.jwrap ∧
    t.seq = s.seq ∧ t.rowbuf = s.rowbuf := by
  obtain ⟨u, sel, r, hu, rfl⟩ := exec_hostEffect h
  cases hu with
  | startJob hi hj => simp [hs] at hj
  | startError => simp at ht
  | abort => simp at ht
  | clearEnded => simp at ht
  | overrun => simp at ht
  | popLast => simp at ht
  | _ => exact ⟨rfl, rfl, rfl, rfl, rfl, rfl, rfl⟩

/-- Settles O58, by the effects of an instruction (the ones that touch the job leave RUN, or enter it) and
the engine's frame. -/
theorem runningJobKeepsItsLatches : Obligations.RunningJobKeepsItsLatches := by
  refine ⟨fun _ _ _ => exec_keeps_job, fun s t h => ?_⟩
  rw [engineTurn_frame h]
  exact ⟨rfl, rfl, rfl, rfl, rfl⟩

end Sys2Proof.Machine

/-! The invariant: it holds after reset (O53) and every step keeps it (O54). -/

namespace Sys2Proof.Machine

/-! ### What the invariant does not speak of -/

/-- `s` with everything the invariant does not speak of taken from `r`. -/
def State.withOutside (s r : State) : State :=
  { s with
    cmdErr := r.cmdErr, dw := r.dw, dh := r.dh, leftWrap := r.leftWrap, width := r.width, height := r.height
    doneEn := r.doneEn, errEn := r.errEn, cmdErrEn := r.cmdErrEn
    jdw := r.jdw, jdh := r.jdh, jwrap := r.jwrap
    freeCtr := r.freeCtr, events := r.events, trace := r.trace }

theorem State.RunInv.withOutside {s : State} (h : s.RunInv) (r : State) : (s.withOutside r).RunInv :=
  ⟨h.widthMul8, h.widthFits, h.heightFits, h.seqBound, h.wordCount, h.producedAtEnd, h.tags, h.outAtEnd,
    h.loaded⟩

theorem State.Inv.withOutside {s : State} (h : s.Inv) (r : State) : (s.withOutside r).Inv :=
  ⟨h.paramsLegal, h.memWf, h.cellsExist, h.inqBound, h.outqBound, h.inqIdle, h.outqIdle, h.remainIdle,
    h.errCodeIff, h.doneProduced, h.idleNotProduced, fun hj => (h.runInv hj).withOutside r⟩

/-- The invariant goes over to a state that differs in nothing it speaks of. -/
theorem State.Inv.congr {s t : State} (h : s.Inv) (ht : t = s.withOutside t) : t.Inv := by
  rw [ht]; exact h.withOutside t

/-! ### Writes to the cells of ROWBUF -/

/-- `m'` is `m` after some writes to cells that ROWBUF has. -/
def CellWrites (wMax : Nat) : Memory → Memory → Prop :=
  Relation.ReflTransGen fun m m' => ∃ t x n, m.writeCell wMax t x n = .ok m'

/-- Only cells of ROWBUF hold values (10 R39). -/
def CellsExist (wMax : Nat) (m : Memory) : Prop :=
  ∀ a c, m.read a = some c → ∃ slot col, slot < 3 ∧ col < wMax ∧ a = cellAddr slot col

theorem cellsExist_nil (wMax : Nat) : CellsExist wMax [] := by simp [CellsExist]

theorem CellsExist.writeCell {wMax t x : Nat} {n : Int} {m m' : Memory} (hm : CellsExist wMax m)
    (h : m.writeCell wMax t x n = .ok m') : CellsExist wMax m' := by
  obtain ⟨hx, rfl⟩ := Memory.writeCell_ok h
  intro a c hr
  by_cases ha : a = rowCellAddr t x
  · exact ⟨t % 3, x, Nat.mod_lt t (by omega), hx, ha⟩
  · rw [Memory.read_write_other m ha] at hr
    exact hm a c hr

theorem CellsExist.cellWrites {wMax : Nat} {m m' : Memory} (hm : CellsExist wMax m)
    (h : CellWrites wMax m m') : CellsExist wMax m' := by
  induction h with
  | refl => exact hm
  | tail _ hw ih =>
    obtain ⟨t, x, n, hw⟩ := hw
    exact ih.writeCell hw

/-- A cell that holds a value keeps holding one. -/
theorem CellWrites.isSome_read {wMax a : Nat} {m m' : Memory} (h : CellWrites wMax m m')
    (ha : (m.read a).isSome = true) : (m'.read a).isSome = true := by
  induction h with
  | refl => exact ha
  | tail _ hw ih =>
    obtain ⟨t, x, n, hw⟩ := hw
    obtain ⟨-, rfl⟩ := Memory.writeCell_ok hw
    rw [Memory.read_write]
    split
    · rfl
    · exact ih

theorem cellWrites_of_writeCell {wMax t x : Nat} {n : Int} {m m' : Memory}
    (h : m.writeCell wMax t x n = .ok m') : CellWrites wMax m m' :=
  .single ⟨t, x, n, h⟩

theorem loadCells_cellWrites {wMax t i : Nat} {w : Word} {ks : List Nat} {m m' : Memory}
    (h : loadCells wMax t i w ks m = .ok m') : CellWrites wMax m m' := by
  induction ks generalizing m with
  | nil =>
    obtain rfl : m = m' := by simpa [loadCells] using h
    exact .refl
  | cons k rest ih =>
    unfold loadCells at h
    split at h
    · simp at h
    · next m1 h1 => exact (cellWrites_of_writeCell h1).trans (ih h)

/-- The cells of a LOAD hold values after it (42 R166). -/
theorem loadCells_isSome_read {wMax t i k : Nat} {w : Word} {ks : List Nat} {m m' : Memory}
    (h : loadCells wMax t i w ks m = .ok m') (hk : k ∈ ks) :
    (m'.read (rowCellAddr t (4 * i + k))).isSome = true := by
  induction ks generalizing m with
  | nil => simp at hk
  | cons k' rest ih =>
    unfold loadCells at h
    split at h
    · simp at h
    · next m1 h1 =>
      obtain rfl | hk := List.mem_cons.mp hk
      · obtain ⟨-, rfl⟩ := Memory.writeCell_ok h1
        exact (loadCells_cellWrites h).isSome_read (by simp [Memory.read_write_same])
      · exact ih h hk

theorem diffuseEntry_cellWrites {wMax jw : Nat} {wrap : Bool} {y x : Nat} {e : Int} {k : KernelEntry}
    {m m' : Memory} (h : diffuseEntry wMax jw wrap y x e k m = .ok m') : CellWrites wMax m m' := by
  unfold diffuseEntry at h
  split at h
  · obtain rfl : m = m' := by simpa using h
    exact .refl
  · split at h
    · simp at h
    · exact cellWrites_of_writeCell h

theorem diffuse_cellWrites {wMax jw : Nat} {wrap : Bool} {y x : Nat} {e : Int} {ks : List KernelEntry}
    {m m' : Memory} (h : diffuse wMax jw wrap y x e ks m = .ok m') : CellWrites wMax m m' := by
  induction ks generalizing m with
  | nil =>
    obtain rfl : m = m' := by simpa [diffuse] using h
    exact .refl
  | cons k rest ih =>
    unfold diffuse at h
    split at h
    · simp at h
    · next m1 h1 => exact (diffuseEntry_cellWrites h1).trans (ih h)

theorem visitCells_cellWrites {wMax jw : Nat} {wrap : Bool} {y x : Nat} {m m' : Memory}
    (h : visitCells wMax jw wrap y x m = .ok m') : CellWrites wMax m m' := by
  obtain ⟨c, hx, -, hd⟩ := visitCells_ok h
  exact (cellWrites_of_writeCell (Memory.writeCell_of_lt _ hx)).trans (diffuse_cellWrites hd)

/-! ### The job program: how many LOADs it has, and how it ends -/

/-- The micro-ops that push a byte to OUTQ (42 R165, 44 R218). -/
def MicroOp.pushes (op : MicroOp) : Bool :=
  match op with
  | .hdr _ => true
  | .pack _ _ => true
  | .load _ _ => false
  | .visit _ _ => false

theorem countP_isLoad_loadRow (jw t : Nat) : (loadRow jw t).countP MicroOp.isLoad = jw / 4 := by
  rw [List.countP_eq_length.mpr, length_loadRow]
  intro op hop
  obtain ⟨i, -, rfl⟩ := mem_loadRow.mp hop
  rfl

theorem countP_isLoad_visitRow (jw y : Nat) : (visitRow jw y).countP MicroOp.isLoad = 0 := by
  rw [List.countP_eq_zero]
  intro op hop
  obtain ⟨x, -, rfl⟩ := mem_visitRow.mp hop
  simp [MicroOp.isLoad]

theorem countP_isLoad_packRow (jw y : Nat) : (packRow jw y).countP MicroOp.isLoad = 0 := by
  rw [List.countP_eq_zero]
  intro op hop
  obtain ⟨b, -, rfl⟩ := mem_packRow.mp hop
  simp [MicroOp.isLoad]

theorem countP_isLoad_rowStep (jw jh y : Nat) :
    (rowStep jw jh y).countP MicroOp.isLoad = if y + 4 ≤ jh then jw / 4 else 0 := by
  unfold rowStep
  split <;> split <;>
    simp [countP_isLoad_visitRow, countP_isLoad_packRow, countP_isLoad_loadRow]

/-- The row steps load the rows from 3 on, each in the step of the row three above it (42 R162). -/
theorem countP_isLoad_rowSteps (jw jh n : Nat) :
    ((List.range n).flatMap (rowStep jw jh)).countP MicroOp.isLoad = min n (jh - 3) * (jw / 4) := by
  induction n with
  | zero => simp
  | succ n ih =>
    rw [List.range_succ, List.flatMap_append, List.countP_append, ih, List.flatMap_singleton,
      countP_isLoad_rowStep]
    split
    case isTrue hy => rw [show min (n + 1) (jh - 3) = min n (jh - 3) + 1 by omega, Nat.succ_mul]
    case isFalse hy => rw [show min (n + 1) (jh - 3) = min n (jh - 3) by omega, Nat.add_zero]

theorem countP_isLoad_firstRows (jw n : Nat) :
    ((List.range n).flatMap (loadRow jw)).countP MicroOp.isLoad = n * (jw / 4) := by
  simp [List.countP_flatMap, Function.comp_def, countP_isLoad_loadRow]

/-- A job program has one LOAD for each word of each row (42 R162). -/
theorem countP_isLoad_jobProg (jw jh : Nat) : (jobProg jw jh).countP MicroOp.isLoad = jh * (jw / 4) := by
  have hhdr : hdrOps.countP MicroOp.isLoad = 0 := by decide
  rw [jobProg, List.countP_append, List.countP_append, hhdr, countP_isLoad_firstRows,
    countP_isLoad_rowSteps, Nat.zero_add, ← Nat.add_mul]
  congr 1
  omega

theorem jobProg_zero_width (jh : Nat) : jobProg 0 jh = hdrOps := by
  have hload : loadRow 0 = fun _ => [] := rfl
  have hstep : rowStep 0 jh = fun _ => [] := by
    funext y
    simp [rowStep, visitRow, packRow, loadRow]
  simp [jobProg, hload, hstep]

/-- The last row step ends with a PACK: it loads no further row. -/
theorem getLast?_rowStep_last {jw : Nat} (hjw : 0 < jw / 8) (n : Nat) :
    (rowStep jw (n + 1) n).getLast? = some (.pack n (jw / 8 - 1)) := by
  obtain ⟨b, hb⟩ : ∃ b, jw / 8 = b + 1 := ⟨jw / 8 - 1, by omega⟩
  simp [rowStep, packRow, hb, List.range_succ]

/-- Every job program ends with a push: HDR(7), or the last PACK (42 R169). -/
theorem getLast?_jobProg_pushes {jw : Nat} (h8 : jw % 8 = 0) (jh : Nat) :
    ∃ op, (jobProg jw jh).getLast? = some op ∧ op.pushes = true := by
  obtain rfl | hjw := Nat.eq_zero_or_pos jw
  · exact ⟨.hdr 7, by rw [jobProg_zero_width]; rfl, rfl⟩
  cases jh with
  | zero => exact ⟨.hdr 7, by simp [jobProg, hdrOps], rfl⟩
  | succ n =>
    refine ⟨.pack n (jw / 8 - 1), ?_, rfl⟩
    rw [jobProg, List.range_succ, List.flatMap_append, List.flatMap_singleton, ← List.append_assoc,
      List.getLast?_append, getLast?_rowStep_last (by omega)]
    rfl

/-! ### Moving one micro-op on -/

section Next
variable {s t : State} {op : MicroOp}

theorem seq_lt_of_current (hop : s.prog[s.seq]? = some op) : s.seq < s.prog.length :=
  (List.getElem?_eq_some_iff.mp hop).1

theorem take_seq_next (hop : s.prog[s.seq]? = some op) :
    s.prog.take (s.seq + 1) = s.prog.take s.seq ++ [op] := by
  rw [List.take_add_one, hop]
  rfl

theorem mem_take_seq_next (hop : s.prog[s.seq]? = some op) {op' : MicroOp} :
    op' ∈ s.prog.take (s.seq + 1) ↔ op' ∈ s.prog.take s.seq ∨ op' = op := by
  rw [take_seq_next hop, List.mem_append, List.mem_singleton]

/-- `L` of 10 R49(c), one micro-op on. -/
theorem loadsDone_next (hop : s.prog[s.seq]? = some op) (hp : t.prog = s.prog) (hs : t.seq = s.seq + 1) :
    t.loadsDone = s.loadsDone + if op.isLoad then 1 else 0 := by
  rw [State.loadsDone, hp, hs, take_seq_next hop, List.filter_append, List.length_append]
  cases hl : op.isLoad <;> simp [State.loadsDone, hl]

/-- At the end of the program every word of the job is loaded. -/
theorem loadsDone_at_end (hs : s.seq = s.prog.length) : s.loadsDone = s.jh.toNat * (s.jw.toNat / 4) := by
  rw [State.loadsDone, hs, List.take_length, ← List.countP_eq_length_filter]
  exact countP_isLoad_jobProg _ _

/-- A micro-op that pushes nothing is not the last one. -/
theorem seq_succ_ne_length (h : s.RunInv) (hop : s.prog[s.seq]? = some op) (hpush : op.pushes = false) :
    s.seq + 1 ≠ s.prog.length := by
  intro hs
  obtain ⟨last, hlast, hpushes⟩ := getLast?_jobProg_pushes h.widthMul8 s.jh.toNat
  have hlast' : s.prog[s.seq]? = some last := by
    rw [← hlast, List.getLast?_eq_getElem?, ← State.prog, ← hs, Nat.add_sub_cancel]
  obtain rfl : op = last := by simpa [hop] using hlast'
  simp [hpush] at hpushes

/-- At the end of the program nothing is left to come or to load. -/
theorem State.RunInv.no_input_at_end (h : s.RunInv) (hs : s.seq = s.prog.length) :
    s.inRemain = 0#32 ∧ s.inq = [] := by
  have hwords : s.jh.toNat * (s.jw.toNat / 4) = s.jw.toNat * s.jh.toNat / 4 := by
    rw [Nat.mul_comm s.jw.toNat, Nat.mul_div_assoc]
    have := h.widthMul8
    omega
  have hcount := h.wordCount
  rw [loadsDone_at_end hs, hwords] at hcount
  exact ⟨BitVec.eq_of_toNat_eq (by simp; omega), List.eq_nil_of_length_eq_zero (by omega)⟩

/-- Before the end of the program no queued entry is tagged LAST. -/
theorem State.RunInv.not_last_of_mem (h : s.RunInv) (hs : s.seq ≠ s.prog.length) {e : OutEntry}
    (he : e ∈ s.outq) : e.last = false := by
  obtain ⟨pre, post, hq⟩ := List.append_of_mem he
  have htag := h.tags pre e post hq
  simpa [hs] using htag

/-- The tags after the push of an entry behind untagged ones. -/
theorem tags_push {q : List OutEntry} (hq : ∀ e ∈ q, e.last = false) (new : OutEntry)
    (pre : List OutEntry) (e : OutEntry) (post : List OutEntry) (h : q ++ [new] = pre ++ e :: post) :
    e.last = true ↔ post = [] ∧ new.last = true := by
  obtain rfl | ⟨mid, x, rfl⟩ := post.eq_nil_or_concat
  · obtain ⟨-, rfl⟩ : q = pre ∧ new = e := by simpa using List.append_inj' h rfl
    simp
  · have hmem : e ∈ q := by
      rw [List.concat_eq_append, ← List.cons_append, ← List.append_assoc] at h
      rw [(List.append_inj' h rfl).1]
      simp
    simp [hq e hmem]

theorem isLast_iff (hs : s.seq < s.prog.length) : s.isLast = true ↔ s.seq + 1 = s.prog.length := by
  rw [State.isLast, decide_eq_true_iff]
  omega

/-- HDR and PACK keep the running job's invariant. -/
theorem State.RunInv.produce (h : s.RunInv) (hop : s.prog[s.seq]? = some op) (hl : op.isLoad = false)
    (b : Byte) : (s.produce b).advance.RunInv where
  widthMul8 := h.widthMul8
  widthFits := h.widthFits
  heightFits := h.heightFits
  seqBound := seq_lt_of_current hop
  wordCount := by
    rw [loadsDone_next (t := (s.produce b).advance) hop rfl rfl, hl]
    exact h.wordCount
  producedAtEnd := by
    have hlt := seq_lt_of_current hop
    have hnot : s.produced = false := by simpa [hlt.ne] using h.producedAtEnd
    show (s.produced || s.isLast) = true ↔ s.seq + 1 = s.prog.length
    rw [hnot, Bool.false_or, isLast_iff hlt]
  tags := fun pre e post hq => by
    have hlt := seq_lt_of_current hop
    have htag := tags_push (fun _ => h.not_last_of_mem hlt.ne) ⟨b, s.isLast⟩ pre e post hq
    rw [htag, isLast_iff hlt]
    rfl
  outAtEnd := fun _ => by simp [State.produce, State.outPush]
  loaded := fun r i hm k hk => by
    obtain hm | rfl := (mem_take_seq_next hop).mp hm
    · exact h.loaded r i hm k hk
    · simp [MicroOp.isLoad] at hl

/-- LOAD and VISIT keep the running job's invariant: they write cells, and a LOAD takes a word. -/
theorem State.RunInv.writeCells (h : s.RunInv) (hop : s.prog[s.seq]? = some op)
    (hpush : op.pushes = false) {inq : List Word} {m : Memory}
    (hinq : s.inq.length = inq.length + if op.isLoad then 1 else 0)
    (hw : CellWrites s.params.wMax s.rowbuf m)
    (hload : ∀ r i, op = .load r i → ∀ k, k < 4 → (m.read (rowCellAddr r (4 * i + k))).isSome = true) :
    ({ s with inq := inq, rowbuf := m } : State).advance.RunInv where
  widthMul8 := h.widthMul8
  widthFits := h.widthFits
  heightFits := h.heightFits
  seqBound := seq_lt_of_current hop
  wordCount := by
    have hcount := h.wordCount
    rw [loadsDone_next (t := ({ s with inq := inq, rowbuf := m } : State).advance) hop rfl rfl]
    simp only [State.advance]
    omega
  producedAtEnd := by
    have hnot : s.produced = false := by simpa [(seq_lt_of_current hop).ne] using h.producedAtEnd
    have hend : ¬ s.seq + 1 = s.prog.length := seq_succ_ne_length h hop hpush
    show s.produced = true ↔ s.seq + 1 = s.prog.length
    simp [hnot, hend]
  tags := fun pre e post hq => by
    have hlast := h.not_last_of_mem (seq_lt_of_current hop).ne (e := e) (by simp [show s.outq = _ from hq])
    have hend : ¬ s.seq + 1 = s.prog.length := seq_succ_ne_length h hop hpush
    show e.last = true ↔ post = [] ∧ s.seq + 1 = s.prog.length
    simp [hlast, hend]
  outAtEnd := fun hs => absurd (show s.seq + 1 = s.prog.length from hs) (seq_succ_ne_length h hop hpush)
  loaded := fun r i hm k hk => by
    obtain hm | hm := (mem_take_seq_next hop).mp hm
    · exact hw.isSome_read (h.loaded r i hm k hk)
    · exact hload r i hm.symm k hk

end Next

/-! ### The invariant outside RUN and in RUN -/

/-- Outside RUN, with nothing queued, the invariant is about ROWBUF and the status fields alone. -/
theorem inv_of_stopped {t : State} (hj : t.jobState ≠ .run) (hp : t.params.legal)
    (hwf : t.rowbuf.wf = true) (hc : CellsExist t.params.wMax t.rowbuf)
    (hi : t.inq = []) (ho : t.outq = []) (hr : t.inRemain = 0#32)
    (he : t.jobState ≠ .error ↔ t.errCode = .none) (hd : t.jobState = .done → t.produced = true)
    (hn : t.jobState = .idle → t.produced = false) : t.Inv where
  paramsLegal := hp
  memWf := hwf
  cellsExist := hc
  inqBound := by simp [hi]
  outqBound := by simp [ho]
  inqIdle := fun _ => hi
  outqIdle := fun _ => ho
  remainIdle := fun _ => hr
  errCodeIff := he
  doneProduced := hd
  idleNotProduced := hn
  runInv := fun h => absurd h hj

/-- IDLE with every FIFO and cell emptied: after reset and after ABORT. -/
theorem inv_of_idle_empty {t : State} (hp : t.params.legal) (hj : t.jobState = .idle)
    (he : t.errCode = .none) (hn : t.produced = false) (hm : t.rowbuf = []) (hi : t.inq = [])
    (ho : t.outq = []) (hr : t.inRemain = 0#32) : t.Inv :=
  inv_of_stopped (by simp [hj]) hp (by simp [hm]) (hm ▸ cellsExist_nil _) hi ho hr (by simp [hj, he])
    (by simp [hj]) (fun _ => hn)

/-- In RUN the invariant is about ROWBUF, the FIFO bounds and the job. -/
theorem inv_of_running {t : State} (hj : t.jobState = .run) (hp : t.params.legal)
    (hwf : t.rowbuf.wf = true) (hc : CellsExist t.params.wMax t.rowbuf)
    (hi : t.inq.length ≤ t.params.inDepth) (ho : t.outq.length ≤ t.params.outDepth)
    (he : t.errCode = .none) (hrun : t.RunInv) : t.Inv where
  paramsLegal := hp
  memWf := hwf
  cellsExist := hc
  inqBound := hi
  outqBound := ho
  inqIdle := fun h => absurd hj h
  outqIdle := fun h => absurd hj h
  remainIdle := fun h => absurd hj h
  errCodeIff := by simp [hj, he]
  doneProduced := by simp [hj]
  idleNotProduced := by simp [hj]
  runInv := fun _ => hrun

/-- Settles O53: everything the invariant speaks of is emptied or at its IDLE value. -/
theorem invariantHoldsAfterReset : Obligations.InvariantHoldsAfterReset :=
  ⟨fun _ _ hp => inv_of_idle_empty hp rfl rfl rfl rfl rfl rfl rfl,
    inv_of_idle_empty (show Params.default.legal by decide) rfl rfl rfl rfl rfl rfl rfl⟩

/-! ### The host's effects keep the invariant -/

section Host
variable {s : State} (h : s.Inv)
include h

theorem State.Inv.errCode_of_ne_error (hj : s.jobState ≠ .error) : s.errCode = .none := h.errCodeIff.mp hj

theorem State.Inv.abortJob : s.abortJob.Inv := inv_of_idle_empty h.paramsLegal rfl rfl rfl rfl rfl rfl rfl

theorem State.Inv.resetBlock : s.resetBlock.Inv :=
  inv_of_idle_empty h.paramsLegal rfl rfl rfl rfl rfl rfl rfl

theorem State.Inv.raiseError {c : ErrCode} (hc : c ≠ .none) : (s.raiseError c).Inv :=
  inv_of_stopped (by simp) (by simpa using h.paramsLegal) rfl (cellsExist_nil _) rfl rfl rfl (by simpa using hc)
    (by simp) (by simp)

theorem State.Inv.clearEnded (hj : s.jobState = .done ∨ s.jobState = .error) :
    ({ s with cmdErr := false, jobState := .idle, errCode := .none, produced := false } : State).Inv := by
  have hrun : s.jobState ≠ .run := by obtain hj | hj := hj <;> simp [hj]
  exact inv_of_stopped (by simp) h.paramsLegal h.memWf h.cellsExist (h.inqIdle hrun) (h.outqIdle hrun)
    (h.remainIdle hrun) (by simp) (by simp) (fun _ => rfl)

end Host

theorem dimCheck_eq_none {wMax w h : Nat} (hd : dimCheck wMax w h = .none) :
    w % 8 = 0 ∧ w ≤ wMax ∧ h ≤ 65535 := by
  unfold dimCheck at hd
  split at hd
  · simp at hd
  · split at hd
    · simp at hd
    · split at hd
      · simp at hd
      · omega

/-- A job that START accepts begins with its whole program and all its words to come. -/
theorem runInv_beginJob {s : State} (hp : s.params.legal) (hq : s.inq = []) (ho : s.outq = [])
    (hd : dimCheck s.params.wMax s.width.toNat s.height.toNat = .none) : s.beginJob.RunInv := by
  obtain ⟨h8, hw, hh⟩ := dimCheck_eq_none hd
  have hlen : s.beginJob.prog.length ≠ 0 := by
    have := eight_le_length_jobProg s.width.toNat s.height.toNat
    show (jobProg s.width.toNat s.height.toNat).length ≠ 0
    omega
  exact
    { widthMul8 := h8
      widthFits := hw
      heightFits := hh
      seqBound := Nat.zero_le _
      wordCount := by
        have hsize : s.width.toNat * s.height.toNat / 4 < 2 ^ 32 := by
          have : s.width.toNat * s.height.toNat ≤ 65528 * 65535 := Nat.mul_le_mul (by omega) hh
          omega
        simpa [State.loadsDone, hq] using hsize
      producedAtEnd := by simpa using hlen.symm
      tags := by simp [ho]
      outAtEnd := fun hs => absurd hs.symm hlen
      loaded := by simp }

theorem State.Inv.beginJob {s : State} (h : s.Inv) (hj : s.jobState = .idle)
    (hd : dimCheck s.params.wMax s.width.toNat s.height.toNat = .none) : s.beginJob.Inv := by
  have hq := h.inqIdle (by simp [hj])
  have ho := h.outqIdle (by simp [hj])
  exact inv_of_running rfl h.paramsLegal rfl (cellsExist_nil _) h.inqBound h.outqBound
    (h.errCode_of_ne_error (by simp [hj])) (runInv_beginJob h.paramsLegal hq ho hd)

theorem State.Inv.acceptWord {s : State} (h : s.Inv) (v : Word) (hj : s.jobState = .run)
    (hr : s.inRemain ≠ 0#32) (hq : s.inq.length ≠ s.params.inDepth) :
    ({ s.inPush v with inRemain := s.inRemain - 1#32 } : State).Inv := by
  have hrun := h.runInv hj
  have hroom := h.inqBound
  refine inv_of_running hj h.paramsLegal h.memWf h.cellsExist
    (by simpa [State.inPush] using by omega) h.outqBound (h.errCode_of_ne_error (by simp [hj])) ?_
  have hcount : (s.inRemain - 1#32).toNat + s.loadsDone + (s.inq ++ [v]).length =
      s.jw.toNat * s.jh.toNat / 4 := by
    have hsub : (s.inRemain - 1#32).toNat + 1 = s.inRemain.toNat := by bv_omega
    have := hrun.wordCount
    rw [List.length_append, List.length_singleton]
    omega
  exact { hrun with wordCount := hcount }

theorem State.Inv.popByte {s : State} (h : s.Inv) {e : OutEntry} {rest : List OutEntry}
    (hq : s.outq = e :: rest) (he : e.last = false) : ({ s with outq := rest } : State).Inv := by
  have hj : s.jobState = .run := by
    by_contra hj
    simp [h.outqIdle hj] at hq
  have hrun := h.runInv hj
  have hroom : rest.length ≤ s.params.outDepth := by
    have := h.outqBound
    simp only [hq, List.length_cons] at this
    omega
  refine inv_of_running hj h.paramsLegal h.memWf h.cellsExist h.inqBound hroom
    (h.errCode_of_ne_error (by simp [hj])) ?_
  have htags : ∀ pre e' post, rest = pre ++ e' :: post →
      (e'.last = true ↔ post = [] ∧ s.seq = s.prog.length) :=
    fun pre e' post hrest => hrun.tags (e :: pre) e' post (by rw [hq, hrest]; rfl)
  have hend : s.seq = s.prog.length → rest ≠ [] := fun hs hrest => by
    simpa [he, hrest, hs] using hrun.tags [] e rest hq
  exact { hrun with tags := htags, outAtEnd := hend }

theorem State.Inv.popLast {s : State} (h : s.Inv) {e : OutEntry} {rest : List OutEntry}
    (hq : s.outq = e :: rest) (he : e.last = true) :
    ({ s.leaveRun with outq := rest, jobState := .done } : State).Inv := by
  have hj : s.jobState = .run := by
    by_contra hj
    simp [h.outqIdle hj] at hq
  have hrun := h.runInv hj
  obtain ⟨hrest, hs⟩ := (hrun.tags [] e rest hq).mp he
  obtain ⟨hremain, hinq⟩ := hrun.no_input_at_end hs
  exact inv_of_stopped (by simp) (by simpa using h.paramsLegal) (by simpa using h.memWf)
    (by rw [State.leaveRun_rowbuf, State.leaveRun_params]; exact h.cellsExist) (by simpa using hinq)
    hrest (by simpa using hremain) (by simpa using h.errCode_of_ne_error (by simp [hj]))
    (by simpa using hrun.producedAtEnd.mpr hs) (by simp)

theorem HostEffect.inv {s u : State} {i : Instr} (hu : HostEffect s i u) (h : s.Inv) : u.Inv := by
  cases hu with
  | registers => exact h.congr rfl
  | badCommand => exact h.congr rfl
  | startJob _ hj hd => exact h.beginJob hj hd
  | startError _ _ hd => exact h.raiseError hd
  | abort => exact h.abortJob
  | clearEnded _ hj => exact h.clearEnded hj
  | clearFlag => exact h.congr rfl
  | acceptWord v _ hj hr hq => exact h.acceptWord v hj hr hq
  | overrun => exact h.raiseError (by simp)
  | popByte e rest _ hq he => exact h.popByte hq he
  | popLast e rest _ hq he => exact h.popLast hq he

theorem exec_inv {i : Instr} {s t : State} (h : s.Inv) (hx : exec i s = .next t) : t.Inv := by
  obtain ⟨u, sel, r, hu, rfl⟩ := exec_hostEffect hx
  exact (hu.inv h).congr rfl

theorem hostStep_inv {r : HostRequest} {s t : State} (h : s.Inv) (hx : hostStep r s = .next t) : t.Inv := by
  obtain ⟨-, rfl⟩ | ⟨_, _, -, -, hx⟩ := hostStep_next hx
  · exact h
  · exact exec_inv h hx

/-! ### The engine keeps the invariant -/

section Engine
variable {s : State} {op : MicroOp} (h : s.Inv) (hj : s.jobState = .run) (hop : s.prog[s.seq]? = some op)
include h hj hop

theorem State.Inv.produce (hl : op.isLoad = false) (hroom : s.outq.length < s.params.outDepth) (b : Byte) :
    (s.produce b).advance.Inv :=
  inv_of_running hj h.paramsLegal h.memWf h.cellsExist h.inqBound
    (by simpa [State.produce, State.outPush] using hroom) (h.errCode_of_ne_error (by simp [hj]))
    ((h.runInv hj).produce hop hl b)

theorem State.Inv.load {r i : Nat} {w : Word} {rest : List Word} {m : Memory} (hl : op = .load r i)
    (hq : s.inq = w :: rest) (hm : loadCells s.params.wMax r i w [0, 1, 2, 3] s.rowbuf = .ok m) :
    ({ s with inq := rest, rowbuf := m } : State).advance.Inv := by
  have hw := loadCells_cellWrites hm
  have hlen : s.inq.length = rest.length + 1 := by simp [hq]
  have hroom : rest.length ≤ s.params.inDepth := by
    have := h.inqBound
    omega
  refine inv_of_running hj h.paramsLegal (loadCells_wf h.memWf hm)
    (CellsExist.cellWrites h.cellsExist hw) hroom h.outqBound (h.errCode_of_ne_error (by simp [hj]))
    ((h.runInv hj).writeCells hop (by rw [hl]; rfl) (by rw [hl]; exact hlen) hw ?_)
  intro r' i' hl' k hk
  obtain ⟨rfl, rfl⟩ : r = r' ∧ i = i' := by simpa [hl] using hl'
  exact loadCells_isSome_read hm (by simp; omega)

theorem State.Inv.visit {y x : Nat} {m : Memory} (hl : op = .visit y x)
    (hm : visitCells s.params.wMax s.jw.toNat s.jwrap y x s.rowbuf = .ok m) :
    ({ s with rowbuf := m } : State).advance.Inv := by
  have hw := visitCells_cellWrites hm
  exact inv_of_running hj h.paramsLegal (visitCells_wf h.memWf hm) (CellsExist.cellWrites h.cellsExist hw)
    h.inqBound h.outqBound (h.errCode_of_ne_error (by simp [hj]))
    ((h.runInv hj).writeCells hop (by rw [hl]; rfl) (by rw [hl]; rfl) hw (by simp [hl]))

theorem microOp_inv {t : State} (hg : guard op s = true) (ho : microOp op s = .ok t) : t.Inv := by
  obtain ⟨k, rfl, rfl⟩ | ⟨r, i, w, rest, m, hl, hq, hm, rfl⟩ | ⟨y, x, m, hl, hm, rfl⟩ |
    ⟨y, b, byte, rfl, -, rfl⟩ := microOp_ok hg ho
  · exact h.produce hj hop rfl (by simpa [guard] using hg) _
  · exact h.load hj hop hl hq hm
  · exact h.visit hj hop hl hm
  · exact h.produce hj hop rfl (by simpa [guard] using hg) _

end Engine

theorem engineTurn_inv {s t : State} (h : s.Inv) (he : engineTurn s = .next t) : t.Inv := by
  obtain ⟨rfl, -⟩ | ⟨op, hc, hg, ho⟩ := engineTurn_next he
  · exact h
  · obtain ⟨hj, hop⟩ := currentOp_eq_some.mp hc
    exact microOp_inv h hj hop hg ho

/-- Settles O54, by the kinds of step. Two facts about the job program carry the engine's part: it has a
LOAD for each word of the job, so that nothing is queued when the LAST byte is popped, and it ends with a
push, so that no LOAD or VISIT reaches its end. -/
theorem everyStepKeepsTheInvariant : Obligations.EveryStepKeepsTheInvariant := by
  intro s t h hstep
  obtain ⟨-, he⟩ | ⟨rest, -, he⟩ | ⟨r, rest, -, hh⟩ | ⟨rest, -, rfl⟩ := step_next hstep
  · exact engineTurn_inv h he
  · exact engineTurn_inv (h.congr rfl) he
  · exact hostStep_inv (h.congr rfl) hh
  · exact State.Inv.resetBlock (h.congr rfl)

end Sys2Proof.Machine

/-! Host accesses: what an access in the window fetches, what its frame decodes to, and O6: misaligned accesses
and accesses of another size. -/

namespace Sys2Proof.Machine

/-! ### From an access to its instruction -/

/-- With a host request next, the step is the host's. -/
theorem step_host {s : State} {r : HostRequest} {rest : List Event} (h : s.events = .host r :: rest) :
    step s = hostStep r { s with events := rest } := by
  simp [step, h]

/-- The offset of an address in the window (20 R61). -/
theorem windowOffset_of_mem {base addr : Nat} (hlo : base ≤ addr) (hhi : addr < base + 64) :
    windowOffset base addr = some (addr - base) :=
  if_pos ⟨hlo, hhi⟩

/-- A 32-bit access in the window fetches its BUS frame. -/
theorem fetchRequest_of_word {p : Params} {a : Access} (hsize : a.size = 4) (hlo : p.base ≤ a.addr)
    (hhi : a.addr < p.base + 64) :
    fetchRequest p (.access a) = .frame (busFrame a.write (accessSelector a.write (a.addr - p.base)) a.data) := by
  simp [fetchRequest, windowOffset_of_mem hlo hhi, hsize]

/-- An access of another size in the window fetches no frame (20 R62). -/
theorem fetchRequest_of_size_ne {p : Params} {a : Access} (hsize : a.size ≠ 4) (hlo : p.base ≤ a.addr)
    (hhi : a.addr < p.base + 64) : fetchRequest p (.access a) = .wrongSize := by
  simp [fetchRequest, windowOffset_of_mem hlo hhi, hsize]

/-- The bits of a selector are those of `{WE, off}` as a number (30 R81). -/
theorem getLsbD_accessSelector (write : Bool) (off : Nat) {i : Nat} (hi : i < 8) :
    (accessSelector write off).getLsbD i = ((if write then 2 ^ 6 else 0) + off).testBit i := by
  rw [accessSelector, BitVec.getLsbD_ofNat, decide_eq_true hi, Bool.true_and]
  rfl

/-- Bits 5:0 of a selector are the offset's, AL among them (30 R81). -/
theorem getLsbD_accessSelector_offset (write : Bool) (off : Nat) {i : Nat} (hi : i < 6) :
    (accessSelector write off).getLsbD i = off.testBit i := by
  rw [getLsbD_accessSelector write off (by omega)]
  cases write
  case false => rw [if_neg Bool.false_ne_true, Nat.zero_add]
  case true => exact Nat.testBit_two_pow_add_gt hi off

/-- Bit 6 of a selector is WE (30 R81). -/
theorem getLsbD_accessSelector_we (write : Bool) {off : Nat} (hoff : off < 64) :
    (accessSelector write off).getLsbD 6 = write := by
  have hoff6 : off.testBit 6 = false := Nat.testBit_lt_two_pow hoff
  rw [getLsbD_accessSelector write off (by decide)]
  cases write
  case false => rw [if_neg Bool.false_ne_true, Nat.zero_add, hoff6]
  case true => rw [if_pos rfl, Nat.testBit_two_pow_add_eq, hoff6, Bool.not_false]

/-- A selector has seven bits (30 R81). -/
theorem getLsbD_accessSelector_seven (write : Bool) {off : Nat} (hoff : off < 64) :
    (accessSelector write off).getLsbD 7 = false := by
  rw [getLsbD_accessSelector write off (by decide)]
  exact Nat.testBit_lt_two_pow (by split <;> omega)

/-- The frame of an access in the window decodes by its selector, with the write data or 0 (30 R82). -/
theorem decode_accessFrame (write : Bool) {off : Nat} (hoff : off < 64) (v : Word) :
    decode (busFrame write (accessSelector write off) v) =
      .ok (decodeSelector (accessSelector write off) (if write then v else 0#32)) := by
  have h7 := getLsbD_accessSelector_seven write hoff
  have h6 := getLsbD_accessSelector_we write hoff
  cases write
  case false => exact decode_readFrame _ h7 h6
  case true => exact decode_writeFrame _ v h7 h6

/-- A step on a 32-bit access in the window runs the instruction of its selector. -/
theorem step_wordAccess {s : State} {a : Access} {rest : List Event} (h : s.events = .host (.access a) :: rest)
    (hsize : a.size = 4) (hlo : s.params.base ≤ a.addr) (hhi : a.addr < s.params.base + 64) :
    step s = exec (decodeSelector (accessSelector a.write (a.addr - s.params.base))
      (if a.write then a.data else 0#32)) { s with events := rest } := by
  have hoff : a.addr - s.params.base < 64 := by omega
  rw [step_host h]
  simp [hostStep, fetchRequest_of_word hsize hlo hhi, decode_accessFrame a.write hoff]

/-! ### Refused accesses -/

/-- An offset that is no multiple of 4 has bit 0 or bit 1. -/
theorem testBit_of_mod_four_ne_zero {off : Nat} (h : off % 4 ≠ 0) :
    off.testBit 0 = true ∨ off.testBit 1 = true := by
  simp only [Nat.testBit_eq_decide_div_mod_eq, decide_eq_true_iff]
  omega

/-- A selector whose AL is not 00 is refused, whatever its other bits (20 R63, 30 R81). -/
theorem exec_decodeSelector_misaligned {sel : Byte} (h : sel.getLsbD 0 = true ∨ sel.getLsbD 1 = true)
    (v : Word) (s : State) : exec (decodeSelector sel v) s = .refused .misaligned := by
  unfold decodeSelector
  by_cases h0 : sel.getLsbD 0 = true
  · rw [if_pos h0]; rfl
  · rw [if_neg h0, if_pos (h.resolve_left h0)]; rfl

theorem step_misaligned {s : State} {a : Access} {rest : List Event} (h : s.events = .host (.access a) :: rest)
    (hsize : a.size = 4) (hlo : s.params.base ≤ a.addr) (hhi : a.addr < s.params.base + 64)
    (hal : (a.addr - s.params.base) % 4 ≠ 0) : step s = .refused .misaligned := by
  rw [step_wordAccess h hsize hlo hhi]
  apply exec_decodeSelector_misaligned
  rw [getLsbD_accessSelector_offset _ _ (by decide), getLsbD_accessSelector_offset _ _ (by decide)]
  exact testBit_of_mod_four_ne_zero hal

theorem step_accessSize {s : State} {a : Access} {rest : List Event} (h : s.events = .host (.access a) :: rest)
    (hsize : a.size ≠ 4) (hlo : s.params.base ≤ a.addr) (hhi : a.addr < s.params.base + 64) :
    step s = .refused .accessSize := by
  rw [step_host h]
  simp [hostStep, fetchRequest_of_size_ne hsize hlo hhi]

/-- Settles O6: a misaligned offset leaves AL of the selector not 00, which decodes to a MISALIGNED row; an
access of another size is refused before any frame is made. -/
theorem misalignedAndOddSizedAccessesAreRefused : Obligations.MisalignedAndOddSizedAccessesAreRefused :=
  ⟨fun _ _ _ _ _ => rfl, fun _ _ _ _ => rfl, fun _ _ _ h hlo hhi =>
    ⟨fun hsize hal => step_misaligned h hsize hlo hhi hal, fun hsize => step_accessSize h hsize hlo hhi⟩⟩

end Sys2Proof.Machine

/-! The two ways to issue a command: O8, the pseudo-instruction CMD is the write to CMD. -/

namespace Sys2Proof.Machine

/-- The 32-bit write at offset 4 is WR_CMD (30 R81). -/
theorem decodeSelector_cmdWrite (v : Word) : decodeSelector (accessSelector true 4) v = .wrCmd v := rfl

/-- The instruction of a command word has the meaning of WR_CMD with that word (30 R84, 41 R141). -/
theorem exec_decodeCommand (v : Word) (s : State) : exec (decodeCommand v) s = exec (.wrCmd v) s := by
  show exec (decodeCommand v) s = commandDone (executeCommand v s)
  unfold decodeCommand executeCommand
  split
  · rfl
  · split
    · rfl
    · split
      · rfl
      · split <;> rfl

/-- A step on a command request runs the instruction of its word. -/
theorem step_command {s : State} {v : Word} {rest : List Event} (h : s.events = .host (.command v) :: rest) :
    step s = exec (decodeCommand v) { s with events := rest } := by
  rw [step_host h]
  simp only [hostStep, fetchRequest, decode_commandFrame]

/-- Settles O8: both requests run WR_CMD with the word, the access by its selector and the command by the
meaning of its word. -/
theorem commandRequestIsTheWriteToCmd : Obligations.CommandRequestIsTheWriteToCmd := by
  intro s v rest
  rw [step_command rfl, step_wordAccess rfl rfl (Nat.le_add_right _ 4) (by simp), exec_decodeCommand,
    Nat.add_sub_cancel_left]
  simp only [if_true, decodeSelector_cmdWrite]

end Sys2Proof.Machine

/-! The packed bitmap: the bits of a byte, the place of a byte, and O46. -/

namespace Sys2Proof.Machine

/-! ### The bits of a byte -/

/-- BIT without SNAP: ink where the value is at most 128 (44 R214, R215). -/
theorem bit_eq (v : Int) : bit v = decide (v ≤ 128) := by
  by_cases hv : v ≤ 128 <;> simp [bit, snap, hv]

/-- The mask of pixel `i` has its value in bit `7 - i` and 0 elsewhere (44 R216). -/
theorem getLsbD_bitAt (p : Bool) {i k : Nat} (hi : i < 8) (hk : k < 8) :
    (bitAt p i).getLsbD (7 - k) = (decide (i = k) && p) := by
  cases p
  case false => simp [bitAt]
  case true =>
    have hbit : 7 - i < 8 ∧ 7 - i = 7 - k ↔ i = k := by omega
    show (BitVec.twoPow 8 (7 - i)).getLsbD (7 - k) = _
    rw [BitVec.getLsbD_twoPow, Bool.and_true, ← Bool.decide_and, decide_eq_decide]
    exact hbit

/-- OR-ing in the masks of the pixels `is` sets bit `7 - k` where pixel `k` is one of them and set. -/
theorem getLsbD_foldl_bitAt (f : Nat → Bool) {is : List Nat} (his : ∀ i ∈ is, i < 8) (acc : Byte) {k : Nat}
    (hk : k < 8) :
    (is.foldl (fun acc i => acc ||| bitAt (f i) i) acc).getLsbD (7 - k) =
      (acc.getLsbD (7 - k) || (decide (k ∈ is) && f k)) := by
  induction is generalizing acc with
  | nil => simp
  | cons i rest ih =>
    obtain ⟨hi, hrest⟩ := List.forall_mem_cons.mp his
    rw [List.foldl_cons, ih hrest, BitVec.getLsbD_or, getLsbD_bitAt _ hi hk, Bool.or_assoc]
    by_cases hik : i = k
    · subst hik; cases f i <;> simp
    · simp [hik, Ne.symm hik]

/-- Bit `7 - k` of a packed byte is ink where its pixel `k` is at most 128 (44 R215, R216). -/
theorem getLsbD_packedByte (f : Nat → Int) {k : Nat} (hk : k < 8) :
    ([0, 1, 2, 3, 4, 5, 6, 7].foldl (fun acc i => acc ||| bitAt (bit (f i)) i) 0#8).getLsbD (7 - k) =
      decide (f k ≤ 128) := by
  have hmem : k ∈ [0, 1, 2, 3, 4, 5, 6, 7] := List.mem_range.mpr hk
  rw [getLsbD_foldl_bitAt (fun i => bit (f i)) (by decide) _ hk, bit_eq]
  simp [hmem]

/-! ### The place of a byte -/

theorem length_header (jw jh : Nat) (jdw jdh : Bool) : (header jw jh jdw jdh).length = 8 := rfl

/-- Entry `b` of row `y`, in a list of rows of equal length laid out one after the other. -/
theorem getElem?_flatMap_of_length_eq {f : Nat → List Byte} {n : Nat} (hn : ∀ y, (f y).length = n)
    (ys : List Nat) {i b : Nat} (hb : b < n) :
    (ys.flatMap f)[i * n + b]? = ys[i]?.bind fun y => (f y)[b]? := by
  induction ys generalizing i with
  | nil => simp
  | cons y rest ih =>
    rw [List.flatMap_cons]
    cases i with
    | zero => simp [List.getElem?_append_left, hn, hb]
    | succ i =>
      rw [Nat.succ_mul, Nat.add_right_comm, List.getElem?_append_right (by rw [hn]; omega), hn,
        Nat.add_sub_cancel, ih]
      rfl

theorem length_packAll (p : Image) (w h : Nat) : (packAll p w h).length = w / 8 * h := by
  simp [packAll, Nat.mul_comm]

/-- PACKALL has byte `(y, b)` at `y·(w/8) + b` (44 R217). -/
theorem getElem?_packAll (p : Image) {w h y b : Nat} (hy : y < h) (hb : b < w / 8) :
    (packAll p w h)[y * (w / 8) + b]? = some (denseByte p y b) := by
  rw [packAll, getElem?_flatMap_of_length_eq (fun _ => by simp) _ hb]
  simp [hy, hb]

/-- Settles O46: the header is 8 bytes long, and the byte of row `y` and column `b` is packed from the eight
pixels at its columns. -/
theorem streamBytesHoldTheirPixels : Obligations.StreamBytesHoldTheirPixels := by
  intro i w h dw dh wrap
  refine ⟨List.take_left' (length_header ..), ?_, fun y b hy hb => ⟨denseByte (dither i w h wrap) y b, ?_, ?_⟩⟩
  · rw [stream, List.length_append, length_header, length_packAll]
  · rw [stream, List.getElem?_append_right (by rw [length_header]; omega), length_header, Nat.add_assoc,
      Nat.add_sub_cancel_left, getElem?_packAll _ hy hb]
  · exact fun k hk => getLsbD_packedByte (fun k => Image.get (dither i w h wrap) y (8 * b + k)) hk

end Sys2Proof.Machine

/-! Register reads and writes: what the access to each slot runs and how it completes, the words that reads
return, and from them O5, O9 to O16 and O27. -/

namespace Sys2Proof.Machine

/-! ### The slots of the window -/

/-- The selector of slot `k` has AL = 00 and IDX = `k` (30 R81). -/
theorem decodeSelector_slot (write : Bool) {k : Nat} (hk : k < 16) (v : Word) :
    decodeSelector (accessSelector write (4 * k)) v =
      if write then decodeWrite (BitVec.ofNat 4 k) v else decodeRead (BitVec.ofNat 4 k) := by
  have hoff : 4 * k < 64 := by omega
  have h0 : (accessSelector write (4 * k)).getLsbD 0 = false := by
    rw [getLsbD_accessSelector_offset _ _ (by decide), Nat.testBit_zero, decide_eq_false]; omega
  have h1 : (accessSelector write (4 * k)).getLsbD 1 = false := by
    rw [getLsbD_accessSelector_offset _ _ (by decide), Nat.testBit_eq_decide_div_mod_eq, decide_eq_false]; omega
  have hidx : (accessSelector write (4 * k)).extractLsb' 2 4 = BitVec.ofNat 4 k := by
    apply BitVec.eq_of_toNat_eq
    simp only [accessSelector, BitVec.extractLsb'_toNat, BitVec.toNat_ofNat, Nat.shiftRight_eq_div_pow]
    split <;> omega
  rw [decodeSelector, h0, h1, hidx, getLsbD_accessSelector_we write hoff, if_neg Bool.false_ne_true,
    if_neg Bool.false_ne_true]

/-- The read frame of slot `k`. -/
theorem decode_readSlot {k : Nat} (hk : k < 16) :
    decode (readFrame (accessSelector false (4 * k))) = .ok (decodeRead (BitVec.ofNat 4 k)) :=
  (decode_accessFrame false (by omega) 0#32).trans (congrArg _ (decodeSelector_slot false hk 0#32))

/-- The write frame of slot `k`. -/
theorem decode_writeSlot {k : Nat} (hk : k < 16) (v : Word) :
    decode (writeFrame (accessSelector true (4 * k)) v) = .ok (decodeWrite (BitVec.ofNat 4 k) v) :=
  (decode_accessFrame true (by omega) v).trans (congrArg _ (decodeSelector_slot true hk v))

/-- The four slots from 12 on are the reserved offsets `0x30 + 4j` (30 R81). -/
theorem decodeRead_rsvdHi (j : BitVec 2) : decodeRead (BitVec.ofNat 4 (12 + j.toNat)) = .rdRsvdHi j := by
  revert j; decide

theorem decodeWrite_rsvdHi (j : BitVec 2) (v : Word) :
    decodeWrite (BitVec.ofNat 4 (12 + j.toNat)) v = .wrRsvdHi j v := by
  obtain rfl | rfl | rfl | rfl : j = 0#2 ∨ j = 1#2 ∨ j = 2#2 ∨ j = 3#2 := by revert j; decide
  all_goals rfl

theorem rsvdSel_eq (we : Bool) (j : BitVec 2) :
    rsvdSel we j = BitVec.ofNat 7 ((if we then 0x70 else 0x30) + 4 * j.toNat) := by
  revert we j; decide

/-! ### Every access to a slot completes -/

/-- The read of slot `k` completes under its selector, after its effect (40 R125). Only the read of OUT_DATA,
slot 9, has an effect. -/
theorem exec_decodeRead {k : Nat} (hk : k < 16) (s : State) :
    ∃ w, exec (decodeRead (BitVec.ofNat 4 k)) s =
      readDone (BitVec.ofNat 7 (4 * k)) w (instrEffect (decodeRead (BitVec.ofNat 4 k)) s) := by
  by_cases hout : k = 9
  · subst hout
    exact execRdOutData_eq s
  · have hk' : k < 9 ∨ (10 ≤ k ∧ k < 16) := by omega
    obtain hlt | ⟨hge, hlt⟩ := hk'
    · interval_cases k
      all_goals exact ⟨_, rfl⟩
    · interval_cases k
      all_goals exact ⟨_, rfl⟩

/-- The write of slot `k` completes under its selector, after its effect (40 R125). -/
theorem exec_decodeWrite {k : Nat} (hk : k < 16) (v : Word) (s : State) :
    exec (decodeWrite (BitVec.ofNat 4 k) v) s =
      writeDone (BitVec.ofNat 7 (64 + 4 * k)) (instrEffect (decodeWrite (BitVec.ofNat 4 k) v) s) := by
  interval_cases k
  all_goals rfl

/-- An access to slot `k` completes under its selector, after its effect (40 R125). -/
theorem exec_slot (write : Bool) {k : Nat} (hk : k < 16) (v : Word) (s : State) :
    ∃ r, exec (decodeSelector (accessSelector write (4 * k)) v) s =
      .next ((instrEffect (decodeSelector (accessSelector write (4 * k)) v) s).observe
        (BitVec.ofNat 7 ((if write then 64 else 0) + 4 * k)) r) := by
  rw [decodeSelector_slot write hk]
  cases write
  case false =>
    obtain ⟨w, hw⟩ := exec_decodeRead hk s
    exact ⟨.data w, by simpa using hw⟩
  case true => exact ⟨.ack, exec_decodeWrite hk v s⟩

/-- No effect of an instruction touches the events still to come or the record. -/
theorem hostEffect_events_trace {i : Instr} {s u : State} (h : HostEffect s i u) :
    u.events = s.events ∧ u.trace = s.trace := by
  cases h
  case startError => simp
  case overrun => simp
  case popLast => simp
  all_goals exact ⟨rfl, rfl⟩

@[simp] theorem instrEffect_events (i : Instr) (s : State) : (instrEffect i s).events = s.events :=
  (hostEffect_events_trace (instrEffect_hostEffect i s)).1

@[simp] theorem instrEffect_trace (i : Instr) (s : State) : (instrEffect i s).trace = s.trace :=
  (hostEffect_events_trace (instrEffect_hostEffect i s)).2

/-- Settles O5: the access runs the instruction of its slot, which completes under the slot's selector. -/
theorem alignedWordAccessesCompleteInOneStep : Obligations.AlignedWordAccessesCompleteInOneStep := by
  intro s a rest h hsize hlo hhi hal
  obtain ⟨k, hk⟩ := Nat.dvd_of_mod_eq_zero hal
  have hk16 : k < 16 := by omega
  rw [step_wordAccess h hsize hlo hhi, hk]
  obtain ⟨r, hx⟩ := exec_slot a.write hk16 (if a.write then a.data else 0#32) { s with events := rest }
  refine ⟨_, _, hx, instrEffect_events _ _, congrArg (· ++ _) (instrEffect_trace _ _), Nat.mod_eq_of_lt ?_⟩
  split <;> omega

/-! ### The words that reads return -/

/-- A concatenation as a number: its low part, and its high part above it. -/
theorem toNat_append_eq_add {m n : Nat} (x : BitVec m) (y : BitVec n) :
    (x ++ y).toNat = x.toNat * 2 ^ n + y.toNat := by
  rw [BitVec.toNat_append, ← Nat.shiftLeft_add_eq_or_of_lt y.isLt, Nat.shiftLeft_eq]

/-- Bit `i` of a word, from the word as a number. -/
theorem getLsbD_of_div_mod {n i : Nat} {w : BitVec n} {b : Bool} (h : w.toNat / 2 ^ i % 2 = b.toNat) :
    w.getLsbD i = b := by
  rw [← BitVec.testBit_toNat, Nat.testBit_eq_decide_div_mod_eq, h]
  cases b <;> rfl

theorem toNat_statusWord (s : State) : s.statusWord.toNat =
    256 * s.produced.toNat + 16 * s.errCode.code.toNat + 8 * s.irq.toNat + 4 * s.cmdErr.toNat +
      s.jobState.code.toNat := by
  simp only [State.statusWord, toNat_append_eq_add, BitVec.toNat_ofBool, BitVec.toNat_ofNat]
  omega

/-- Every field of STATUS at its bits, and nothing above them (40 R104). -/
theorem statusWord_fields (s : State) :
    s.statusWord.toNat % 4 = s.jobState.code.toNat ∧ s.statusWord.toNat / 2 ^ 2 % 2 = s.cmdErr.toNat ∧
    s.statusWord.toNat / 2 ^ 3 % 2 = s.irq.toNat ∧ s.statusWord.toNat / 16 % 16 = s.errCode.code.toNat ∧
    s.statusWord.toNat / 2 ^ 8 % 2 = s.produced.toNat ∧ s.statusWord.toNat < 512 := by
  have hjob := s.jobState.code.isLt
  have herr := s.errCode.code.isLt
  have hcmd := s.cmdErr.toNat_le
  have hirq := s.irq.toNat_le
  have hprod := s.produced.toNat_le
  rw [toNat_statusWord]
  omega

/-- A word of three flags, flag by flag. -/
theorem getLsbD_threeFlags (a b c : Bool) :
    (0#29 ++ BitVec.ofBool c ++ BitVec.ofBool b ++ BitVec.ofBool a).getLsbD 0 = a ∧
    (0#29 ++ BitVec.ofBool c ++ BitVec.ofBool b ++ BitVec.ofBool a).getLsbD 1 = b ∧
    (0#29 ++ BitVec.ofBool c ++ BitVec.ofBool b ++ BitVec.ofBool a).getLsbD 2 = c ∧
    (0#29 ++ BitVec.ofBool c ++ BitVec.ofBool b ++ BitVec.ofBool a).toNat < 8 := by
  revert a b c; decide

theorem toNat_levelsWord {s : State} (hp : s.params.legal) (hi : s.inq.length ≤ s.params.inDepth)
    (ho : s.outq.length ≤ s.params.outDepth) :
    s.levelsWord.toNat = s.outq.length * 65536 + (s.params.inDepth - s.inq.length) := by
  obtain ⟨-, -, -, -, hin, -, hout, -⟩ := hp
  simp only [State.levelsWord, toNat_append_eq_add, BitVec.toNat_ofNat]
  omega

theorem toNat_outDataWord (e : OutEntry) :
    (outDataWord e).toNat = e.byte.toNat + 256 + (if e.last then 512 else 0) := by
  simp only [outDataWord, toNat_append_eq_add, BitVec.toNat_ofBool, BitVec.toNat_ofNat]
  cases e.last <;> simp <;> omega

/-! ### Reads -/

/-- Settles O9: each of these reads leaves the state but for its reply; the reserved offsets `0x30 + 4j`
are the slots from 12 on (30 R81). -/
theorem constantReadsAnswerTheirConstants : Obligations.ConstantReadsAnswerTheirConstants := by
  refine fun s => ⟨⟨rfl, rfl⟩, ⟨rfl, rfl⟩, ⟨rfl, rfl⟩, ⟨rfl, rfl⟩, fun j => ⟨?_, ?_⟩⟩
  · rw [← decodeRead_rsvdHi, ← decode_readSlot (by omega), readFrame, accessSelector, Nat.mul_add]
    simp
  · show readDone (rsvdSel false j) 0#32 s = _
    rw [rsvdSel_eq]; rfl

/-- Settles O10, by the fields of STATUS as a number. -/
theorem statusReadReturnsEveryField : Obligations.StatusReadReturnsEveryField := by
  refine ⟨rfl, fun s => ⟨s.statusWord, rfl, ?_⟩⟩
  obtain ⟨hstate, hcmdErr, hirq, herr, hproduced, hlt⟩ := statusWord_fields s
  refine ⟨hstate.trans ?_, getLsbD_of_div_mod hcmdErr, getLsbD_of_div_mod hirq, herr.trans ?_,
    getLsbD_of_div_mod hproduced, hlt⟩
  · cases s.jobState <;> rfl
  · cases s.errCode <;> rfl

/-- Settles O11: the words of CONFIG and IRQ_EN are three flags; the last clause is the invariant's own. -/
theorem registerReadsReturnTheirFields : Obligations.RegisterReadsReturnTheirFields :=
  ⟨⟨rfl, rfl, rfl, rfl, rfl⟩, fun s => ⟨⟨s.configWord, rfl, getLsbD_threeFlags s.dw s.dh s.leftWrap⟩, rfl, rfl,
    ⟨s.irqEnWord, rfl, getLsbD_threeFlags s.doneEn s.errEn s.cmdErrEn⟩, rfl, State.Inv.remainIdle⟩⟩

/-- Settles O12, by the value of LEVELS as a number; outside RUN both FIFOs are empty (10 R49). -/
theorem levelsReadReturnsTheFifoLevels : Obligations.LevelsReadReturnsTheFifoLevels := by
  refine ⟨rfl, fun s hp hi ho => ⟨s.levelsWord, rfl, ?_⟩⟩
  have hfree : s.params.inDepth - s.inq.length < 65536 := by
    obtain ⟨-, -, -, -, hin, -⟩ := hp
    omega
  rw [toNat_levelsWord hp hi ho]
  refine ⟨by omega, by omega, fun hinv hj => ?_⟩
  simp [hinv.inqIdle hj, hinv.outqIdle hj]

theorem execRdOutData_nil {s : State} (hq : s.outq = []) :
    execRdOutData s = .next (s.observe 0x24#7 (.data 0#32)) := by
  simp [execRdOutData, hq]

theorem execRdOutData_cons {s : State} {e : OutEntry} {rest : List OutEntry} (hq : s.outq = e :: rest) :
    execRdOutData s = .next ((s.popOut e rest).observe 0x24#7 (.data (outDataWord e))) := by
  simp [execRdOutData, hq]

/-- Settles O16, by the branches of the read and, where it pops, of the pop. -/
theorem outDataReadPopsTheOldestByte : Obligations.OutDataReadPopsTheOldestByte := by
  refine ⟨rfl, fun s => ⟨execRdOutData_nil, fun e rest hq => ⟨outDataWord e, toNat_outDataWord e, ?_, ?_⟩⟩⟩
  all_goals
    intro he
    refine (execRdOutData_cons hq).trans ?_
    simp [State.popOut, he]

/-! ### Writes -/

/-- Settles O13: the frames are those of six slots and of the slots from 12 on, and their writes have no effect. -/
theorem writesToReadOnlySlotsChangeNothing : Obligations.WritesToReadOnlySlotsChangeNothing := by
  refine fun s v => ⟨⟨decode_writeSlot (k := 0) (by decide) v, rfl⟩, ⟨decode_writeSlot (k := 2) (by decide) v, rfl⟩,
    ⟨decode_writeSlot (k := 7) (by decide) v, rfl⟩, ⟨decode_writeSlot (k := 9) (by decide) v, rfl⟩,
    ⟨decode_writeSlot (k := 10) (by decide) v, rfl⟩, ⟨decode_writeSlot (k := 11) (by decide) v, rfl⟩,
    fun j => ⟨?_, ?_⟩⟩
  · rw [← decodeWrite_rsvdHi, ← decode_writeSlot (by omega), accessSelector, Nat.mul_add, ← Nat.add_assoc]
    rfl
  · show writeDone (rsvdSel true j) s = _
    rw [rsvdSel_eq]; rfl

/-- Settles O14: slots 3 to 6, whose writes the model gives field by field. -/
theorem configurationWritesStoreTheirFields : Obligations.ConfigurationWritesStoreTheirFields :=
  fun _ v => ⟨⟨decode_writeSlot (k := 3) (by decide) v, rfl⟩, ⟨decode_writeSlot (k := 4) (by decide) v, rfl⟩,
    ⟨decode_writeSlot (k := 5) (by decide) v, rfl⟩, ⟨decode_writeSlot (k := 6) (by decide) v, rfl⟩⟩

/-- Settles O15: slot 8, by the three branches of the write's effect. -/
theorem inDataWriteIsIgnoredRefusedOrAccepted : Obligations.InDataWriteIsIgnoredRefusedOrAccepted := by
  intro s v
  have hx : exec (.wrInData v) s = .next ((acceptInData v s).observe 0x60#7 .ack) := rfl
  refine ⟨decode_writeSlot (k := 8) (by decide) v, fun hj => ?_, fun hj hf => ?_, fun hj hr hq => ?_⟩
  · rw [hx, acceptInData, if_pos hj]
  · rw [hx, acceptInData, if_neg (not_not.mpr hj), if_pos hf]
  · rw [hx, acceptInData, if_neg (not_not.mpr hj), if_neg (not_or.mpr ⟨hr, hq⟩), State.inPush]

/-- Settles O27, by the effects of an instruction: the others leave both FIFOs, and START's error entry empties
them in IDLE, where the invariant has them empty already (10 R49). -/
theorem fifosChangeOnlyAsListed : Obligations.FifosChangeOnlyAsListed := by
  intro i s t hinv h hne
  obtain ⟨u, sel, r, hu, rfl⟩ := exec_hostEffect h
  cases hu with
  | acceptWord v hi => exact .inl ⟨v, hi, rfl, rfl⟩
  | overrun v hi => exact .inr (.inl ⟨v, hi, rfl, rfl, rfl⟩)
  | popByte e rest hi hq => exact .inr (.inr (.inl ⟨hi, rfl, e, hq⟩))
  | popLast e rest hi hq => exact .inr (.inr (.inl ⟨hi, by simp, e, hq⟩))
  | abort hi => exact .inr (.inr (.inr ⟨hi, rfl, rfl⟩))
  | startError hi hj =>
    have hrun : s.jobState ≠ .run := by simp [hj]
    simp [hinv.inqIdle hrun, hinv.outqIdle hrun] at hne
  | _ => simp [State.withHostRegs] at hne

end Sys2Proof.Machine

/-! The commands: what START, CLEAR and a command word do under each condition, and from it O17 to O23. -/

namespace Sys2Proof.Machine

/-! ### START (41 R143, R144) -/

/-- Settles O17, by the branches of DIMCHECK: each reports its code and excludes the other three. -/
theorem dimCheckReportsTheFirstCause : Obligations.DimCheckReportsTheFirstCause := by
  intro wMax w h
  unfold dimCheck
  split
  case isTrue h8 => simp [h8]
  case isFalse h8 =>
    rw [not_not] at h8
    split
    case isTrue hrange =>
      have hout : w / 8 ≤ 65535 → ¬ h ≤ 65535 := by omega
      simp +contextual [h8, hrange, hout]
    case isFalse hrange =>
      obtain ⟨hw, hh⟩ : w / 8 ≤ 65535 ∧ h ≤ 65535 := by omega
      split
      case isTrue hcap => simp [h8, hw, hh, hcap]
      case isFalse hcap =>
        have hfits : w ≤ wMax := Nat.le_of_not_lt hcap
        simp [h8, hw, hh, hfits]

theorem cmdStart_accepted {s : State} (hj : s.jobState = .idle)
    (hd : dimCheck s.params.wMax s.width.toNat s.height.toNat = .none) : cmdStart s = s.beginJob := by
  simp [cmdStart, hj, hd]

theorem cmdStart_rejected {s : State} {c : ErrCode} (hj : s.jobState = .idle)
    (hd : dimCheck s.params.wMax s.width.toNat s.height.toNat = c) (hc : c ≠ .none) :
    cmdStart s = s.raiseError c := by
  subst hd
  simp [cmdStart, hj]

/-- The word count of a job that fits the row buffer fits IN_REMAIN's 32 bits. -/
theorem jobWords_lt {p : Params} (hp : p.legal) {w h : Nat} (hw : w ≤ p.wMax) (hh : h ≤ 65535) :
    w * h / 4 < 2 ^ 32 := by
  obtain ⟨-, -, hmax, -⟩ := hp
  have hpixels : w * h ≤ 65528 * 65535 := Nat.mul_le_mul (hw.trans hmax) hh
  omega

/-- Settles O18: DIMCHECK reports no cause, and the word count is not cut off. -/
theorem startBeginsALegalJob : Obligations.StartBeginsALegalJob := by
  intro s hj h8 hrange hh hw hp
  have hd : dimCheck s.params.wMax s.width.toNat s.height.toNat = .none := by
    obtain ⟨-, -, -, hnone⟩ := dimCheckReportsTheFirstCause s.params.wMax s.width.toNat s.height.toNat
    exact hnone.mpr ⟨h8, hrange, hh, hw⟩
  refine ⟨s.beginJob.inRemain, Nat.mod_eq_of_lt (jobWords_lt hp hw hh), ?_⟩
  show commandDone (cmdStart s) = _
  rw [cmdStart_accepted hj hd]
  rfl

/-- Settles O19: outside IDLE START is a bad command, and in IDLE its error has the code DIMCHECK reports. -/
theorem startRejectsBadDimensionsAndBusyStates : Obligations.StartRejectsBadDimensionsAndBusyStates := by
  intro s
  obtain ⟨hnotMult8, hhdrRange, hcapacity, -⟩ :=
    dimCheckReportsTheFirstCause s.params.wMax s.width.toNat s.height.toNat
  refine ⟨fun hj => ?_, fun hj h8 => ?_, fun hj h8 hrange => ?_, fun hj h8 hw hh hcap => ?_⟩
  · exact congrArg commandDone (cmdStart_of_not_idle hj)
  · exact congrArg commandDone (cmdStart_rejected hj (hnotMult8.mpr h8) (by decide))
  · exact congrArg commandDone (cmdStart_rejected hj (hhdrRange.mpr ⟨h8, hrange⟩) (by decide))
  · exact congrArg commandDone (cmdStart_rejected hj (hcapacity.mpr ⟨h8, hw, hh, hcap⟩) (by decide))

/-! ### NOP, ABORT and CLEAR (41 R140, R147, R149) -/

/-- Settles O20: NOP has no effect, and the effect of a reserved word is `setCmdErr` whatever the word. -/
theorem nopAndReservedWordsOnlyTouchCmdErr : Obligations.NopAndReservedWordsOnlyTouchCmdErr :=
  fun s => ⟨commandDone_eq s, fun _ => commandDone_eq s.setCmdErr⟩

/-- Settles O21: ABORT's effect `abortJob` has one branch, for every state. -/
theorem abortReturnsToIdle : Obligations.AbortReturnsToIdle := fun s => commandDone_eq s.abortJob

theorem clearErrors_of_ended {s : State} (hj : s.jobState = .done ∨ s.jobState = .error) :
    s.clearErrors = { s with cmdErr := false, jobState := .idle, errCode := .none, produced := false } :=
  if_pos hj

theorem clearErrors_of_not_ended {s : State} (hj : s.jobState = .idle ∨ s.jobState = .run) :
    s.clearErrors = { s with cmdErr := false } :=
  if_neg (by obtain hj | hj := hj <;> simp [hj])

/-- Settles O22, by the two branches of CLEAR's effect. -/
theorem clearLeavesDoneAndError : Obligations.ClearLeavesDoneAndError :=
  fun _ => ⟨fun hj => congrArg commandDone (clearErrors_of_ended hj),
    fun hj => congrArg commandDone (clearErrors_of_not_ended hj)⟩

/-! ### The command a word names (41 R141) -/

theorem executeCommand_nop (s : State) : executeCommand 0#32 s = s := by
  simp [executeCommand]

theorem executeCommand_abort (s : State) : executeCommand 2#32 s = s.abortJob := by
  simp [executeCommand]

theorem isCommandWord_of_gt {v : Word} (hv : 3 < v.toNat) : isCommandWord v = false := by
  rw [isCommandWord, decide_eq_false_iff_not]
  rintro (rfl | rfl | rfl | rfl) <;> simp at hv

/-- Settles O23: the write completes as a command does, so its word's effect decides. -/
theorem writeToCmdExecutesItsWord : Obligations.WriteToCmdExecutesItsWord := by
  intro s v
  refine ⟨?_, ?_, ?_, ?_, fun hv => ?_, _, commandDone_eq (executeCommand v s)⟩
  · rintro rfl; exact congrArg commandDone (executeCommand_nop s)
  · rintro rfl; exact congrArg commandDone (executeCommand_start s)
  · rintro rfl; exact congrArg commandDone (executeCommand_abort s)
  · rintro rfl; exact congrArg commandDone (executeCommand_clear s)
  · exact congrArg commandDone (executeCommand_reserved (isCommandWord_of_gt hv) s)

end Sys2Proof.Machine

/-! The order of the job program (42 R162): its length and its end (O32), the order of each kind of micro-op
(O33), and which rows are resident where (O34). -/

namespace Sys2Proof.Machine

/-! ### Lists over a range -/

/-- A condition that only holds below `m` cuts a range there. -/
theorem flatMap_range_ite {α : Type} (f : Nat → List α) (n m : Nat) :
    (List.range n).flatMap (fun y => if y < m then f y else []) = (List.range (min n m)).flatMap f := by
  induction n with
  | zero => simp
  | succ n ih =>
    rw [List.range_succ, List.flatMap_append, ih, List.flatMap_singleton]
    split
    case isTrue h =>
      rw [show min (n + 1) m = min n m + 1 by omega, List.range_succ, List.flatMap_append,
        List.flatMap_singleton, show min n m = n by omega]
    case isFalse h => rw [show min (n + 1) m = min n m by omega, List.append_nil]

/-- An entry that is neither in `pre` nor in `post` stands in `mid`, behind all of `pre` and before all of
`post`. -/
theorem take_drop_of_getElem? {α : Type} {pre mid post : List α} {a : α} {n : Nat}
    (h : (pre ++ mid ++ post)[n]? = some a) (hpre : a ∉ pre) (hpost : a ∉ post) :
    ∃ j, mid[j]? = some a ∧ (pre ++ mid ++ post).take n = pre ++ mid.take j ∧
      (pre ++ mid ++ post).drop n = mid.drop j ++ post := by
  have hlo : pre.length ≤ n := by
    by_contra hlt
    rw [List.append_assoc, List.getElem?_append_left (by omega)] at h
    exact hpre (List.mem_of_getElem? h)
  obtain ⟨j, rfl⟩ := Nat.exists_eq_add_of_le hlo
  rw [List.append_assoc, List.getElem?_append_right hlo, Nat.add_sub_cancel_left] at h
  have hhi : j < mid.length := by
    by_contra hge
    rw [List.getElem?_append_right (by omega)] at h
    exact hpost (List.mem_of_getElem? h)
  rw [List.getElem?_append_left hhi] at h
  refine ⟨j, h, ?_, ?_⟩
  · rw [List.append_assoc, List.take_length_add_append, List.take_append_of_le_length hhi.le]
  · rw [List.append_assoc, List.drop_length_add_append, List.drop_append_of_le_length hhi.le]

/-! ### Length and end -/

theorem length_rowStep (jw jh y : Nat) : (rowStep jw jh y).length =
    (if y < jh - 2 then jw - 2 else 0) + jw / 8 + (if y < jh - 3 then jw / 4 else 0) := by
  have hvisit : y + 3 ≤ jh ↔ y < jh - 2 := by omega
  have hload : y + 4 ≤ jh ↔ y < jh - 3 := by omega
  simp only [rowStep, hvisit, hload, List.length_append, length_packRow]
  split <;> split <;> simp

theorem length_rowSteps (jw jh n : Nat) : ((List.range n).flatMap (rowStep jw jh)).length =
    min n (jh - 2) * (jw - 2) + n * (jw / 8) + min n (jh - 3) * (jw / 4) := by
  induction n with
  | zero => simp
  | succ n ih =>
    rw [List.range_succ, List.flatMap_append, List.length_append, ih, List.flatMap_singleton, length_rowStep]
    have hcount (m c : Nat) : min (n + 1) m * c = min n m * c + if n < m then c else 0 := by
      split
      case isTrue h => rw [show min (n + 1) m = min n m + 1 by omega, Nat.succ_mul]
      case isFalse h => rw [show min (n + 1) m = min n m by omega, Nat.add_zero]
    rw [hcount, hcount, Nat.succ_mul]
    omega

/-- The four terms of 42 R164: HDR, LOAD, VISIT and PACK. -/
theorem length_jobProg (jw jh : Nat) :
    (jobProg jw jh).length = 8 + jh * (jw / 4) + (jh - 2) * (jw - 2) + jh * (jw / 8) := by
  have hfirst : ((List.range (min 3 jh)).flatMap (loadRow jw)).length = min 3 jh * (jw / 4) := by
    simp [List.length_flatMap]
  have hloads : jh * (jw / 4) = min 3 jh * (jw / 4) + (jh - 3) * (jw / 4) := by
    rw [← Nat.add_mul]; congr 1; omega
  rw [jobProg, List.length_append, List.length_append, length_hdrOps, hfirst, length_rowSteps,
    Nat.min_eq_right (Nat.sub_le jh 2), Nat.min_eq_right (Nat.sub_le jh 3)]
  omega

theorem getLast?_jobProg_of_empty {jw jh : Nat} (h : jw = 0 ∨ jh = 0) :
    (jobProg jw jh).getLast? = some (.hdr 7) := by
  obtain rfl | rfl := h
  · rw [jobProg_zero_width]; rfl
  · simp [jobProg, hdrOps]

theorem getLast?_jobProg {jw jh : Nat} (hjw : 0 < jw / 8) (hjh : jh ≠ 0) :
    (jobProg jw jh).getLast? = some (.pack (jh - 1) (jw / 8 - 1)) := by
  obtain ⟨n, rfl⟩ := Nat.exists_eq_succ_of_ne_zero hjh
  rw [jobProg, List.range_succ, List.flatMap_append, List.flatMap_singleton, ← List.append_assoc,
    List.getLast?_append, getLast?_rowStep_last hjw]
  rfl

/-- Settles O32: the row steps' parts add up row by row, and the last row step ends with its last PACK. -/
theorem jobProgramHasTheStatedLengthAndEnd : Obligations.JobProgramHasTheStatedLengthAndEnd := by
  intro jw jh h8
  refine ⟨?_, getLast?_jobProg_of_empty, fun hjw => getLast?_jobProg (by omega)⟩
  rw [length_jobProg, Nat.mul_div_assoc, Nat.mul_div_assoc] <;> omega

/-! ### The order of each kind -/

/-- The pairs `(t, i)`, `i < n`, of row `t`. -/
def rowPairs (n t : Nat) : List (Nat × Nat) := (List.range n).map fun i => (t, i)

/-- A row of micro-ops of the kind that `f` reads. -/
theorem filterMap_row_some {β : Type} (f : MicroOp → Option β) (c : Nat → MicroOp) {g : Nat → β}
    (h : ∀ i, f (c i) = some (g i)) (n : Nat) :
    ((List.range n).map c).filterMap f = (List.range n).map g := by
  rw [List.filterMap_map, show f ∘ c = some ∘ g from funext h, List.filterMap_eq_map]

/-- A row of micro-ops of another kind. -/
theorem filterMap_row_none {β : Type} (f : MicroOp → Option β) (c : Nat → MicroOp)
    (h : ∀ i, f (c i) = none) (n : Nat) : ((List.range n).map c).filterMap f = [] := by
  simp [List.filterMap_map, h]

@[simp] theorem filterMap_loadOf_loadRow (jw t : Nat) :
    (loadRow jw t).filterMap MicroOp.loadOf = rowPairs (jw / 4) t :=
  filterMap_row_some MicroOp.loadOf (MicroOp.load t) (fun _ => rfl) _
@[simp] theorem filterMap_loadOf_visitRow (jw y : Nat) : (visitRow jw y).filterMap MicroOp.loadOf = [] :=
  filterMap_row_none _ (MicroOp.visit y) (fun _ => rfl) _
@[simp] theorem filterMap_loadOf_packRow (jw y : Nat) : (packRow jw y).filterMap MicroOp.loadOf = [] :=
  filterMap_row_none _ (MicroOp.pack y) (fun _ => rfl) _
@[simp] theorem filterMap_loadOf_hdrOps : hdrOps.filterMap MicroOp.loadOf = [] := rfl

@[simp] theorem filterMap_visitOf_loadRow (jw t : Nat) : (loadRow jw t).filterMap MicroOp.visitOf = [] :=
  filterMap_row_none _ (MicroOp.load t) (fun _ => rfl) _
@[simp] theorem filterMap_visitOf_visitRow (jw y : Nat) :
    (visitRow jw y).filterMap MicroOp.visitOf = rowPairs (jw - 2) y :=
  filterMap_row_some MicroOp.visitOf (MicroOp.visit y) (fun _ => rfl) _
@[simp] theorem filterMap_visitOf_packRow (jw y : Nat) : (packRow jw y).filterMap MicroOp.visitOf = [] :=
  filterMap_row_none _ (MicroOp.pack y) (fun _ => rfl) _
@[simp] theorem filterMap_visitOf_hdrOps : hdrOps.filterMap MicroOp.visitOf = [] := rfl

@[simp] theorem filterMap_packOf_loadRow (jw t : Nat) : (loadRow jw t).filterMap MicroOp.packOf = [] :=
  filterMap_row_none _ (MicroOp.load t) (fun _ => rfl) _
@[simp] theorem filterMap_packOf_visitRow (jw y : Nat) : (visitRow jw y).filterMap MicroOp.packOf = [] :=
  filterMap_row_none _ (MicroOp.visit y) (fun _ => rfl) _
@[simp] theorem filterMap_packOf_packRow (jw y : Nat) :
    (packRow jw y).filterMap MicroOp.packOf = rowPairs (jw / 8) y :=
  filterMap_row_some MicroOp.packOf (MicroOp.pack y) (fun _ => rfl) _
@[simp] theorem filterMap_packOf_hdrOps : hdrOps.filterMap MicroOp.packOf = [] := rfl

theorem filterMap_loadOf_rowStep (jw jh y : Nat) :
    (rowStep jw jh y).filterMap MicroOp.loadOf = if y < jh - 3 then rowPairs (jw / 4) (3 + y) else [] := by
  have hcut : y + 4 ≤ jh ↔ y < jh - 3 := by omega
  rw [rowStep, Nat.add_comm y 3]
  simp only [hcut]
  split <;> split <;> simp

theorem filterMap_visitOf_rowStep (jw jh y : Nat) :
    (rowStep jw jh y).filterMap MicroOp.visitOf = if y < jh - 2 then rowPairs (jw - 2) y else [] := by
  have hcut : y + 3 ≤ jh ↔ y < jh - 2 := by omega
  simp only [rowStep, hcut]
  split <;> split <;> simp

theorem filterMap_packOf_rowStep (jw jh y : Nat) :
    (rowStep jw jh y).filterMap MicroOp.packOf = rowPairs (jw / 8) y := by
  rw [rowStep]
  split <;> split <;> simp

/-- The first three rows are loaded ahead, and the row step of row `y` loads row `y + 3`. -/
theorem filterMap_loadOf_jobProg (jw jh : Nat) :
    (jobProg jw jh).filterMap MicroOp.loadOf = (List.range jh).flatMap (rowPairs (jw / 4)) := by
  have hrange : List.range jh = List.range (min 3 jh) ++ (List.range (jh - 3)).map (3 + ·) := by
    obtain h | h := le_total 3 jh
    · rw [Nat.min_eq_left h, ← List.range_add, Nat.add_sub_cancel' h]
    · simp [h]
  simp only [jobProg, List.filterMap_append, List.filterMap_flatMap, filterMap_loadOf_rowStep,
    filterMap_loadOf_loadRow, filterMap_loadOf_hdrOps, List.nil_append]
  rw [flatMap_range_ite fun y => rowPairs (jw / 4) (3 + y), Nat.min_eq_right (Nat.sub_le jh 3)]
  conv_rhs => rw [hrange, List.flatMap_append, List.flatMap_map]

theorem filterMap_visitOf_jobProg (jw jh : Nat) :
    (jobProg jw jh).filterMap MicroOp.visitOf = visitOrder jw jh := by
  simp only [jobProg, List.filterMap_append, List.filterMap_flatMap, filterMap_visitOf_rowStep,
    filterMap_visitOf_loadRow, filterMap_visitOf_hdrOps, List.nil_append]
  rw [flatMap_range_ite, Nat.min_eq_right (Nat.sub_le jh 2), List.flatMap_eq_nil_iff.mpr fun _ _ => rfl,
    List.nil_append]
  rfl

theorem filterMap_packOf_jobProg (jw jh : Nat) :
    (jobProg jw jh).filterMap MicroOp.packOf = (List.range jh).flatMap (rowPairs (jw / 8)) := by
  simp [jobProg, List.filterMap_flatMap, filterMap_packOf_rowStep]

/-- Settles O33: each kind's order is read off the row steps, whose conditions cut the ranges of rows. -/
theorem microOpsRunInScanOrder : Obligations.MicroOpsRunInScanOrder :=
  fun jw jh => ⟨rfl, filterMap_loadOf_jobProg jw jh, filterMap_visitOf_jobProg jw jh,
    filterMap_packOf_jobProg jw jh⟩

/-! ### Residency -/

/-- The program up to row `y`'s row step. -/
def progBefore (jw jh y : Nat) : List MicroOp :=
  hdrOps ++ (List.range (min 3 jh)).flatMap (loadRow jw) ++ (List.range y).flatMap (rowStep jw jh)

/-- The VISITs of row `y`'s row step. -/
def stepVisits (jw jh y : Nat) : List MicroOp := if y + 3 ≤ jh then visitRow jw y else []

/-- The program behind row `y`'s PACKs. -/
def progAfter (jw jh y : Nat) : List MicroOp :=
  (if y + 4 ≤ jh then loadRow jw (y + 3) else []) ++
    (List.range (jh - (y + 1))).flatMap fun d => rowStep jw jh (y + 1 + d)

theorem jobProg_eq {jw jh y : Nat} (hy : y < jh) : jobProg jw jh =
    progBefore jw jh y ++ stepVisits jw jh y ++ packRow jw y ++ progAfter jw jh y := by
  have hrange : List.range jh = List.range y ++ [y] ++ (List.range (jh - (y + 1))).map (y + 1 + ·) := by
    rw [← List.range_succ, ← List.range_add, Nat.add_sub_cancel' hy]
  simp [jobProg, progBefore, stepVisits, progAfter, rowStep, hrange, List.flatMap_append, List.flatMap_map,
    List.append_assoc]

/-- Before row `y`'s step the rows up to `y + 2` are loaded, and no other. -/
theorem load_mem_progBefore {jw jh y t i : Nat} (hy : y < jh) :
    MicroOp.load t i ∈ progBefore jw jh y ↔ i < jw / 4 ∧ t < jh ∧ t < y + 3 := by
  have hhdr : MicroOp.load t i ∉ hdrOps := by simp [hdrOps]
  have hmem : MicroOp.load t i ∈ progBefore jw jh y ↔
      (t < min 3 jh ∧ i < jw / 4) ∨ ∃ y', y' < y ∧ y' + 4 ≤ jh ∧ i < jw / 4 ∧ t = y' + 3 := by
    simp [progBefore, mem_loadRow, mem_rowStep, hhdr]
  rw [hmem]
  constructor
  · rintro (⟨ht, hi⟩ | ⟨y', hy', hl, hi, rfl⟩) <;> omega
  · rintro ⟨hi, ht, hty⟩
    by_cases h3 : t < 3
    · exact .inl ⟨by omega, hi⟩
    · exact .inr ⟨t - 3, by omega, by omega, hi, by omega⟩

theorem visit_mem_progBefore {jw jh y y' x : Nat} (h : MicroOp.visit y' x ∈ progBefore jw jh y) : y' < y := by
  have hmem : y' < y ∧ y' + 3 ≤ jh ∧ x < jw - 2 := by
    simpa [progBefore, mem_loadRow, mem_rowStep, hdrOps] using h
  exact hmem.1

theorem pack_mem_progBefore {jw jh y y' b : Nat} (h : MicroOp.pack y' b ∈ progBefore jw jh y) : y' < y := by
  have hmem : y' < y ∧ b < jw / 8 := by simpa [progBefore, mem_loadRow, mem_rowStep, hdrOps] using h
  exact hmem.1

/-- Behind row `y`'s PACKs come only LOADs of rows from `y + 3` on, and VISITs and PACKs of rows below. -/
theorem mem_progAfter {jw jh y : Nat} {op : MicroOp} (h : op ∈ progAfter jw jh y) :
    (∃ t i, op = .load t i ∧ y + 3 ≤ t) ∨ (∃ y' x, op = .visit y' x ∧ y < y') ∨
      ∃ y' b, op = .pack y' b ∧ y < y' := by
  obtain h | h := List.mem_append.mp h
  · split at h
    · obtain ⟨i, -, rfl⟩ := mem_loadRow.mp h
      exact .inl ⟨_, i, rfl, le_rfl⟩
    · simp at h
  · obtain ⟨d, -, h⟩ := List.mem_flatMap.mp h
    obtain ⟨-, x, -, rfl⟩ | ⟨b, -, rfl⟩ | ⟨-, i, -, rfl⟩ := mem_rowStep.mp h
    · exact .inr (.inl ⟨_, x, rfl, by omega⟩)
    · exact .inr (.inr ⟨_, b, rfl, by omega⟩)
    · exact .inl ⟨_, i, rfl, by omega⟩

theorem mem_stepVisits {jw jh y : Nat} {op : MicroOp} :
    op ∈ stepVisits jw jh y ↔ y + 3 ≤ jh ∧ ∃ x, x < jw - 2 ∧ op = .visit y x := by
  unfold stepVisits
  split
  case isTrue h => simp [h, mem_visitRow]
  case isFalse h => simp [h]

theorem visit_mem_jobProg {jw jh y x : Nat} (h : MicroOp.visit y x ∈ jobProg jw jh) :
    x < jw - 2 ∧ y + 3 ≤ jh := by
  have hmem : y < jh ∧ y + 3 ≤ jh ∧ x < jw - 2 := by
    simpa [jobProg, mem_loadRow, mem_rowStep, hdrOps] using h
  exact ⟨hmem.2.2, hmem.2.1⟩

theorem pack_mem_jobProg {jw jh y b : Nat} (h : MicroOp.pack y b ∈ jobProg jw jh) : y < jh ∧ b < jw / 8 := by
  simpa [jobProg, mem_loadRow, mem_rowStep, hdrOps] using h

theorem load_mem_jobProg {jw jh t i : Nat} (h : MicroOp.load t i ∈ jobProg jw jh) : t < jh ∧ i < jw / 4 := by
  have hmem : (t < min 3 jh ∧ i < jw / 4) ∨ ∃ y, y < jh ∧ y + 4 ≤ jh ∧ i < jw / 4 ∧ t = y + 3 := by
    simpa [jobProg, mem_loadRow, mem_rowStep, hdrOps] using h
  obtain ⟨ht, hi⟩ | ⟨y, -, ht, hi, rfl⟩ := hmem <;> omega

/-- At a VISIT of row `y` the LOADs done are those of the rows up to `y + 2` (42 R173). -/
theorem load_mem_take_visit {jw jh n y x t i : Nat} (h : (jobProg jw jh)[n]? = some (.visit y x)) :
    MicroOp.load t i ∈ (jobProg jw jh).take n ↔ i < jw / 4 ∧ t < y + 3 := by
  obtain ⟨-, hy⟩ := visit_mem_jobProg (List.mem_of_getElem? h)
  have hyh : y < jh := by omega
  rw [jobProg_eq hyh, List.append_assoc] at h ⊢
  obtain ⟨j, -, htake, -⟩ := take_drop_of_getElem? h (fun hm => absurd (visit_mem_progBefore hm) (lt_irrefl y))
    (fun hm => by
      obtain hm | hm := List.mem_append.mp hm
      · obtain ⟨b, -, hb⟩ := mem_packRow.mp hm
        cases hb
      · obtain ⟨_, _, he, _⟩ | ⟨_, _, he, hlt⟩ | ⟨_, _, he, _⟩ := mem_progAfter hm <;> cases he
        exact lt_irrefl y hlt)
  have hmid : MicroOp.load t i ∉ (stepVisits jw jh y).take j := fun hm => by
    obtain ⟨-, x', -, he⟩ := mem_stepVisits.mp (List.mem_of_mem_take hm)
    cases he
  rw [htake, List.mem_append, load_mem_progBefore hyh, or_iff_left hmid]
  omega

/-- At a PACK of row `y` the same LOADs are done, and the VISITs still to come are of rows below (42 R173). -/
theorem take_drop_pack {jw jh n y b : Nat} (h : (jobProg jw jh)[n]? = some (.pack y b)) :
    (∀ t i, MicroOp.load t i ∈ (jobProg jw jh).take n ↔ i < jw / 4 ∧ t < jh ∧ t < y + 3) ∧
      ∀ y' x, MicroOp.visit y' x ∈ (jobProg jw jh).drop n → y < y' := by
  obtain ⟨hy, -⟩ := pack_mem_jobProg (List.mem_of_getElem? h)
  have hpre : MicroOp.pack y b ∉ progBefore jw jh y ++ stepVisits jw jh y := fun hm => by
    obtain hm | hm := List.mem_append.mp hm
    · exact lt_irrefl y (pack_mem_progBefore hm)
    · obtain ⟨-, x, -, he⟩ := mem_stepVisits.mp hm
      cases he
  have hpost : MicroOp.pack y b ∉ progAfter jw jh y := fun hm => by
    obtain ⟨_, _, he, _⟩ | ⟨_, _, he, _⟩ | ⟨_, _, he, hlt⟩ := mem_progAfter hm <;> cases he
    exact lt_irrefl y hlt
  rw [jobProg_eq hy] at h ⊢
  obtain ⟨j, -, htake, hdrop⟩ := take_drop_of_getElem? h hpre hpost
  have hpacks {op : MicroOp} (hm : op ∈ packRow jw y) : ∃ b, op = .pack y b := by
    obtain ⟨b, -, rfl⟩ := mem_packRow.mp hm
    exact ⟨b, rfl⟩
  refine ⟨fun t i => ?_, fun y' x hm => ?_⟩
  · have hvisits : MicroOp.load t i ∉ stepVisits jw jh y := by simp [mem_stepVisits]
    have hmid : MicroOp.load t i ∉ (packRow jw y).take j := fun hm => by
      obtain ⟨b, he⟩ := hpacks (List.mem_of_mem_take hm)
      cases he
    rw [htake, List.mem_append, List.mem_append, or_iff_left hmid, or_iff_left hvisits, load_mem_progBefore hy]
  · rw [hdrop] at hm
    obtain hm | hm := List.mem_append.mp hm
    · obtain ⟨b, he⟩ := hpacks (List.mem_of_mem_drop hm)
      cases he
    · obtain ⟨_, _, he, _⟩ | ⟨_, _, he, hlt⟩ | ⟨_, _, he, _⟩ := mem_progAfter hm <;> cases he
      exact hlt

/-- Settles O34: the program is cut at row `y`'s VISITs, or at its PACKs; what stands before and behind is known
by row. -/
theorem rowsAreResidentWhenUsed : Obligations.RowsAreResidentWhenUsed := by
  refine fun jw jh n => ⟨fun y x h => ?_, fun y b h => ?_⟩
  · obtain ⟨hx, hy⟩ := visit_mem_jobProg (List.mem_of_getElem? h)
    refine ⟨by omega, hy, by omega, by omega, by omega, fun t i _ ht hi => ?_, fun t i ht hm => ?_⟩
    · exact (load_mem_take_visit h).mpr ⟨hi, by omega⟩
    · obtain ⟨-, hlt⟩ := (load_mem_take_visit h).mp hm
      omega
  · obtain ⟨hy, hb⟩ := pack_mem_jobProg (List.mem_of_getElem? h)
    obtain ⟨hload, hvisit⟩ := take_drop_pack h
    refine ⟨hy, hb, fun i hi => (hload y i).mpr ⟨hi, hy, by omega⟩, fun t i ht hm => ?_, hvisit⟩
    obtain ⟨-, -, hlt⟩ := (hload t i).mp hm
    omega

end Sys2Proof.Machine

/-! One micro-op of the engine: when its turn steps (O35), what HDR and LOAD do (O36, O37), what it leaves alone
(O40), and that it commutes with the host's data accesses (O52). -/

namespace Sys2Proof.Machine

/-! ### When the engine steps -/

theorem engineEnabled_iff {s : State} :
    s.engineEnabled = true ↔ ∃ op, s.currentOp = some op ∧ guard op s = true := by
  unfold State.engineEnabled
  split
  case h_1 op hc => simp [hc]
  case h_2 hc => simp [hc]

/-- The guards of 42 R163. -/
theorem guard_iff {op : MicroOp} {s : State} : guard op s = true ↔
    (∀ k, op = .hdr k → s.outq.length < s.params.outDepth) ∧
    (∀ y b, op = .pack y b → s.outq.length < s.params.outDepth) ∧
    (∀ t i, op = .load t i → 0 < s.inq.length) := by
  cases op <;> simp [guard, List.length_pos_iff]

theorem microOp_load {t i : Nat} {s : State} {w : Word} {rest : List Word} {m : Memory} (hq : s.inq = w :: rest)
    (hm : loadCells s.params.wMax t i w [0, 1, 2, 3] s.rowbuf = .ok m) :
    microOp (.load t i) s = .ok ({ s with inq := rest, rowbuf := m } : State).advance := by
  simp [microOp, microLoad, hq, hm]

theorem microOp_visit {y x : Nat} {s : State} {m : Memory}
    (hm : visitCells s.params.wMax s.jw.toNat s.jwrap y x s.rowbuf = .ok m) :
    microOp (.visit y x) s = .ok ({ s with rowbuf := m } : State).advance := by
  simp [microOp, microVisit, hm]

theorem microOp_pack {y b : Nat} {s : State} {byte : Byte} (hb : packByte s.params.wMax s.rowbuf y b = .ok byte) :
    microOp (.pack y b) s = .ok (s.produce byte).advance := by
  simp [microOp, microPack, hb]

/-- An enabled micro-op moves the engine one micro-op on. -/
theorem microOp_seq {op : MicroOp} {s t : State} (hg : guard op s = true) (h : microOp op s = .ok t) :
    t.seq = s.seq + 1 := by
  obtain ⟨k, -, rfl⟩ | ⟨_, _, _, _, _, -, -, -, rfl⟩ | ⟨_, _, _, -, -, rfl⟩ | ⟨_, _, _, -, -, rfl⟩ :=
    microOp_ok hg h <;> rfl

theorem engineTurn_seq {s t : State} (he : s.engineEnabled = true) (h : engineTurn s = .next t) :
    t.seq = s.seq + 1 := by
  obtain ⟨-, hd⟩ | ⟨op, -, hg, ho⟩ := engineTurn_next h
  · simp [he] at hd
  · exact microOp_seq hg ho

/-- Settles O35, by the current micro-op and its guard. -/
theorem engineStepsExactlyWhenEnabled : Obligations.EngineStepsExactlyWhenEnabled := by
  refine fun s => ⟨?_, engineTurn_of_disabled, fun t => engineTurn_seq⟩
  simp only [engineEnabled_iff, currentOp_eq_some, guard_iff, and_assoc, exists_and_left]

/-! ### HDR and LOAD -/

/-- The two ways to say that a micro-op is the program's last (42 R169). -/
theorem isLast_eq (s : State) : s.isLast = decide (s.seq + 1 = s.prog.length) := by
  have hlen : 8 ≤ s.prog.length := eight_le_length_jobProg _ _
  rw [State.isLast, decide_eq_decide]
  omega

theorem headerByte_getElem? (jw jh : Nat) (jdw jdh : Bool) (k : Fin 8) :
    (header jw jh jdw jdh)[k.val]? = some (headerByte jw jh jdw jdh k) :=
  List.getElem?_eq_getElem _

/-- Settles O36: HDR's push is `produce`, which tags by IS_LAST. -/
theorem hdrPushesItsHeaderByte : Obligations.HdrPushesItsHeaderByte := by
  intro s k hj hop hroom
  refine ⟨_, headerByte_getElem? _ _ _ _ k, ?_⟩
  rw [engineTurn_of_enabled (currentOp_eq_some.mpr ⟨hj, hop⟩) (by simp [guard, hroom]) rfl, ← isLast_eq]
  rfl

/-- Lane `k` of a word as an integer (30 R85). -/
theorem pixelOfWord_eq (w : Word) (k : Nat) : pixelOfWord w k = ((w.toNat / 256 ^ k % 256 : Nat) : Int) := by
  rw [pixelOfWord, lane, BitVec.extractLsb'_toNat, Nat.shiftRight_eq_div_pow, Nat.pow_mul]

/-- A pixel is an unsigned byte. -/
theorem pixelOfWord_range (w : Word) (k : Nat) : 0 ≤ pixelOfWord w k ∧ pixelOfWord w k ≤ 255 := by
  have h := (lane w k).isLt
  unfold pixelOfWord
  omega

/-- What LOAD(t, i) does to ROWBUF (42 R166): its four cells hold the word's pixels, the others are as before. -/
theorem loadCells_read {wMax t i : Nat} (w : Word) (m : Memory) (hfit : 4 * i + 3 < wMax) :
    ∃ m', loadCells wMax t i w [0, 1, 2, 3] m = .ok m' ∧
      (∀ k, k < 4 → m'.read (rowCellAddr t (4 * i + k)) = some (cellOfInt (pixelOfWord w k))) ∧
      ∀ a, (∀ k, k < 4 → a ≠ rowCellAddr t (4 * i + k)) → m'.read a = m.read a := by
  have haddr (k k' : Nat) : rowCellAddr t (4 * i + k) = rowCellAddr t (4 * i + k') ↔ k = k' := by
    unfold rowCellAddr cellAddr; omega
  refine ⟨_, loadCells_of_lt w m hfit, fun k hk => ?_, fun a ha => ?_⟩
  · interval_cases k
    all_goals simp only [Memory.read_write, haddr]; rfl
  · rw [Memory.read_write_other _ (ha 3 (by decide)), Memory.read_write_other _ (ha 2 (by decide)),
      Memory.read_write_other _ (ha 1 (by decide)), Memory.read_write_other _ (ha 0 (by decide))]

/-- Settles O37: a pixel fits its cell, so the cell reads back as the pixel. -/
theorem loadStoresFourPixels : Obligations.LoadStoresFourPixels := by
  intro s t i w rest hj hop hq hfit
  obtain ⟨m, hm, hpix, hother⟩ := loadCells_read (t := t) w s.rowbuf hfit
  refine ⟨m, engineTurn_of_enabled (currentOp_eq_some.mpr ⟨hj, hop⟩) (by simp [guard, hq]) (microOp_load hq hm),
    fun k hk => ⟨_, hpix k hk, ?_⟩, hother⟩
  obtain ⟨hlo, hhi⟩ := pixelOfWord_range w k
  rw [cellOfInt_toInt (by omega) (by omega), pixelOfWord_eq]

/-! ### What the engine leaves alone -/

/-- A micro-op takes at most the oldest word of INQ, or appends one entry to OUTQ (42 R171). -/
theorem microOp_fifos {op : MicroOp} {s t : State} (hg : guard op s = true) (h : microOp op s = .ok t) :
    (t.outq = s.outq ∧ (t.inq = s.inq ∨ ∃ w, s.inq = w :: t.inq)) ∨
      (t.inq = s.inq ∧ ∃ e, t.outq = s.outq ++ [e]) := by
  obtain ⟨k, -, rfl⟩ | ⟨_, _, w, rest, m, -, hq, -, rfl⟩ | ⟨_, _, m, -, -, rfl⟩ | ⟨_, _, byte, -, -, rfl⟩ :=
    microOp_ok hg h
  · exact .inr ⟨rfl, _, rfl⟩
  · exact .inl ⟨rfl, .inr ⟨w, hq⟩⟩
  · exact .inl ⟨rfl, .inl rfl⟩
  · exact .inr ⟨rfl, _, rfl⟩

theorem engineTurn_fifos {s t : State} (h : engineTurn s = .next t) :
    (t.outq = s.outq ∧ (t.inq = s.inq ∨ ∃ w, s.inq = w :: t.inq)) ∨
      (t.inq = s.inq ∧ ∃ e, t.outq = s.outq ++ [e]) := by
  obtain ⟨rfl, -⟩ | ⟨op, -, hg, ho⟩ := engineTurn_next h
  · exact .inl ⟨rfl, .inl rfl⟩
  · exact microOp_fifos hg ho

/-- Settles O40: the engine's frame, and what its micro-ops do to the FIFOs. -/
theorem engineLeavesTheHostsStateAlone : Obligations.EngineLeavesTheHostsStateAlone := by
  intro s t h
  have hfifos := engineTurn_fifos h
  rw [engineTurn_frame h]
  exact ⟨rfl, rfl, rfl, rfl, rfl, rfl, rfl, rfl, rfl, rfl, rfl, rfl, rfl, rfl, rfl, rfl, rfl, rfl, rfl, rfl,
    hfifos⟩

/-! ### Commuting with the host's data accesses -/

/-- `s` after an accepted IN_DATA write of `v` (40 R116). -/
def State.acceptedWord (s : State) (v : Word) : State :=
  ({ s.inPush v with inRemain := s.inRemain - 1#32 } : State).observe 0x60#7 .ack

/-- `s` after the read of the inner stream byte `e`, the oldest of OUTQ (40 R119). -/
def State.readByte (s : State) (e : OutEntry) : State :=
  ({ s with outq := s.outq.tail } : State).observe 0x24#7 (.data (outDataWord e))

theorem exec_wrInData_accepted {s : State} {v : Word} (hj : s.jobState = .run) (hr : s.inRemain ≠ 0#32)
    (hq : s.inq.length < s.params.inDepth) : exec (.wrInData v) s = .next (s.acceptedWord v) := by
  obtain ⟨-, -, -, h⟩ := inDataWriteIsIgnoredRefusedOrAccepted s v
  exact h hj hr hq.ne

theorem exec_rdOutData_inner {s : State} {e : OutEntry} {rest : List OutEntry} (hq : s.outq = e :: rest)
    (he : e.last = false) : exec .rdOutData s = .next (s.readByte e) := by
  refine (execRdOutData_cons hq).trans ?_
  simp [State.popOut, State.readByte, he, hq]

/-- A micro-op does the same behind an accepted IN_DATA write: it takes the oldest word, the host adds the
newest. -/
theorem microOp_acceptedWord {op : MicroOp} {s t : State} (hg : guard op s = true) (h : microOp op s = .ok t)
    (v : Word) : guard op (s.acceptedWord v) = true ∧ microOp op (s.acceptedWord v) = .ok (t.acceptedWord v) := by
  obtain ⟨k, rfl, rfl⟩ | ⟨r, i, w, rest, m, rfl, hq, hm, rfl⟩ | ⟨y, x, m, rfl, hm, rfl⟩ |
    ⟨y, b, byte, rfl, hb, rfl⟩ := microOp_ok hg h
  · exact ⟨hg, rfl⟩
  · have hq' : (s.acceptedWord v).inq = w :: (rest ++ [v]) := by simp [State.acceptedWord, hq]
    exact ⟨by simp [guard, hq'], microOp_load hq' hm⟩
  · exact ⟨hg, microOp_visit (s := s.acceptedWord v) hm⟩
  · exact ⟨hg, microOp_pack (s := s.acceptedWord v) hb⟩

/-- A micro-op does the same behind the read of an inner stream byte: it appends to OUTQ, the host takes the
oldest. -/
theorem microOp_readByte {op : MicroOp} {s t : State} (hg : guard op s = true) (h : microOp op s = .ok t)
    {e : OutEntry} {rest : List OutEntry} (hout : s.outq = e :: rest) :
    guard op (s.readByte e) = true ∧ microOp op (s.readByte e) = .ok (t.readByte e) := by
  have hroom (hlt : decide (s.outq.length < s.params.outDepth) = true) :
      decide ((s.readByte e).outq.length < (s.readByte e).params.outDepth) = true := by
    simp only [State.readByte, State.observe_outq, State.observe_params, List.length_tail,
      decide_eq_true_eq] at hlt ⊢
    omega
  have hpush (b : Byte) : ((s.readByte e).produce b).advance = (s.produce b).advance.readByte e := by
    have htail : (s.produce b).advance.outq.tail = s.outq.tail ++ [⟨b, s.isLast⟩] := by
      rw [State.advance_outq, State.produce_outq, hout]
      rfl
    conv_rhs => rw [State.readByte, htail]
    rfl
  obtain ⟨k, rfl, rfl⟩ | ⟨r, i, w, rest', m, rfl, hq, hm, rfl⟩ | ⟨y, x, m, rfl, hm, rfl⟩ |
    ⟨y, b, byte, rfl, hb, rfl⟩ := microOp_ok hg h
  · exact ⟨hroom hg, congrArg Except.ok (hpush _)⟩
  · exact ⟨hg, microOp_load (s := s.readByte e) hq hm⟩
  · exact ⟨hg, microOp_visit (s := s.readByte e) hm⟩
  · exact ⟨hroom hg, (microOp_pack (s := s.readByte e) hb).trans (congrArg Except.ok (hpush _))⟩

/-- Settles O52: where the engine has an enabled micro-op, it does the same behind the host's access, and the
host's access is accepted, and answers the same, behind it. -/
theorem engineStepsCommuteWithDataAccesses : Obligations.EngineStepsCommuteWithDataAccesses := by
  intro s t hen h
  obtain ⟨-, hd⟩ | ⟨op, hc, hg, ho⟩ := engineTurn_next h
  · simp [hen] at hd
  obtain ⟨hj, hop⟩ := currentOp_eq_some.mp hc
  have hframe := engineTurn_frame h
  have hjt : t.jobState = .run := by rw [hframe]; exact hj
  refine ⟨fun v hr hq => ⟨s.acceptedWord v, t.acceptedWord v, exec_wrInData_accepted hj hr hq, ?_, ?_⟩,
    fun e rest hout he => ⟨s.readByte e, t.readByte e, exec_rdOutData_inner hout he, ?_, ?_⟩⟩
  · obtain ⟨hg', ho'⟩ := microOp_acceptedWord hg ho v
    exact engineTurn_of_enabled hc hg' ho'
  · have hrt : t.inRemain ≠ 0#32 := by rw [hframe]; exact hr
    have hqt : t.inq.length < t.params.inDepth := by
      have hlen : t.inq.length ≤ s.inq.length := by
        obtain ⟨-, hi | ⟨w, hi⟩⟩ | ⟨hi, -⟩ := engineTurn_fifos h <;> simp [hi]
      have hparams : t.params = s.params := by rw [hframe]; rfl
      rw [hparams]
      exact hlen.trans_lt hq
    exact exec_wrInData_accepted hjt hrt hqt
  · obtain ⟨hg', ho'⟩ := microOp_readByte hg ho hout
    exact engineTurn_of_enabled hc hg' ho'
  · have hgrow : ∃ more, t.outq = s.outq ++ more := by
      obtain ⟨hq, -⟩ | ⟨-, e', hq⟩ := engineTurn_fifos h
      · exact ⟨[], by simp [hq]⟩
      · exact ⟨[e'], hq⟩
    obtain ⟨more, hq⟩ := hgrow
    exact exec_rdOutData_inner (rest := rest ++ more) (by rw [hq, hout, List.cons_append]) he

end Sys2Proof.Machine

/-! No step from the invariant faults (O55), so that an unfinished job makes progress or waits for the host
(O60). -/

namespace Sys2Proof.Machine

/-! ### The cells a VISIT touches -/

/-- The offsets and weights of the kernel's entries (43 R181). -/
theorem kernel_bounds : ∀ k ∈ kernel, -2 ≤ k.dx ∧ k.dx ≤ 2 ∧ k.dy ≤ 2 ∧ 0 ≤ k.w := by decide

/-- Where a kept entry writes (43 R187): under LEFT_WRAP an entry left of column 0 comes in from the right. -/
theorem target_some {x y jw tx ty : Nat} {wrap : Bool} {k : KernelEntry}
    (h : target x y jw wrap k = some (tx, ty)) : ty = y + k.dy ∧
      ((0 ≤ (x : Int) + k.dx ∧ (tx : Int) = x + k.dx) ∨
        ((x : Int) + k.dx < 0 ∧ tx = ((x : Int) + k.dx + jw).toNat)) := by
  unfold target at h
  split at h
  case isTrue hneg =>
    split at h
    case isTrue =>
      cases h
      exact ⟨rfl, .inr ⟨hneg, rfl⟩⟩
    case isFalse => simp at h
  case isFalse hpos =>
    cases h
    exact ⟨rfl, .inl ⟨by omega, by omega⟩⟩

/-- A kept target is in the rows `y` to `y + 2`. -/
theorem target_row {x y jw tx ty : Nat} {wrap : Bool} {k : KernelEntry} (hk : k ∈ kernel)
    (h : target x y jw wrap k = some (tx, ty)) : y ≤ ty ∧ ty ≤ y + 2 := by
  obtain ⟨-, -, hdy, -⟩ := kernel_bounds k hk
  obtain ⟨rfl, -⟩ := target_some h
  omega

/-- The kept targets of a visited pixel are in the image's columns. -/
theorem target_col {x y jw tx ty : Nat} {wrap : Bool} {k : KernelEntry} (hk : k ∈ kernel) (hx : x + 3 ≤ jw)
    (h : target x y jw wrap k = some (tx, ty)) : tx < jw := by
  obtain ⟨hlo, hhi, -, -⟩ := kernel_bounds k hk
  obtain ⟨-, hcol⟩ := target_some h
  omega

/-- The cells of rows `y` to `y + 2` hold values. -/
def RowsHold (m : Memory) (jw y : Nat) : Prop :=
  ∀ t col, y ≤ t → t ≤ y + 2 → col < jw → (m.read (rowCellAddr t col)).isSome = true

theorem RowsHold.cellWrites {m m' : Memory} {wMax jw y : Nat} (h : RowsHold m jw y) (hw : CellWrites wMax m m') :
    RowsHold m' jw y :=
  fun t col hlo hhi hcol => hw.isSome_read (h t col hlo hhi hcol)

theorem RowsHold.readCell {m : Memory} {wMax jw y t col : Nat} (h : RowsHold m jw y) (hlo : y ≤ t)
    (hhi : t ≤ y + 2) (hcol : col < jw) (hw : jw ≤ wMax) : ∃ v, m.readCell wMax t col = .ok v := by
  obtain ⟨c, hc⟩ := Option.isSome_iff_exists.mp (h t col hlo hhi hcol)
  exact ⟨c.toInt, Memory.readCell_of_read (by omega) hc⟩

section Visit
variable {wMax jw y x : Nat} {wrap : Bool} (hw : jw ≤ wMax) (hx : x + 3 ≤ jw)
include hw hx

theorem diffuseEntry_answers {m : Memory} (hm : RowsHold m jw y) (e : Int) {k : KernelEntry} (hk : k ∈ kernel) :
    ∃ m', diffuseEntry wMax jw wrap y x e k m = .ok m' := by
  unfold diffuseEntry
  split
  · exact ⟨m, rfl⟩
  · next tx ty ht =>
    have htx := target_col hk hx ht
    obtain ⟨hlo, hhi⟩ := target_row hk ht
    obtain ⟨v, hv⟩ := hm.readCell hlo hhi htx hw
    rw [hv]
    exact ⟨_, Memory.writeCell_of_lt _ (by omega)⟩

theorem diffuse_answers {ks : List KernelEntry} (hks : ∀ k ∈ ks, k ∈ kernel) {m : Memory}
    (hm : RowsHold m jw y) (e : Int) : ∃ m', diffuse wMax jw wrap y x e ks m = .ok m' := by
  induction ks generalizing m with
  | nil => exact ⟨m, rfl⟩
  | cons k rest ih =>
    obtain ⟨hk, hrest⟩ := List.forall_mem_cons.mp hks
    obtain ⟨m1, h1⟩ := diffuseEntry_answers (wrap := wrap) hw hx hm e hk
    obtain ⟨m2, h2⟩ := ih hrest (hm.cellWrites (diffuseEntry_cellWrites h1))
    exact ⟨m2, by simp [diffuse, h1, h2]⟩

/-- A VISIT of a row that is resident with the two below it answers. -/
theorem visitCells_answers {m : Memory} (hm : RowsHold m jw y) : ∃ m', visitCells wMax jw wrap y x m = .ok m' := by
  have hcol : x < wMax := by omega
  obtain ⟨v, hv⟩ := hm.readCell le_rfl (by omega) (show x < jw by omega) hw
  have hm1 := hm.cellWrites (cellWrites_of_writeCell (t := y) (n := thr v) (Memory.writeCell_of_lt _ hcol))
  obtain ⟨m2, h2⟩ := diffuse_answers (wrap := wrap) hw hx (fun _ => id) hm1 (v - thr v)
  exact ⟨m2, by simp [visitCells, hv, Memory.writeCell_of_lt _ hcol, h2]⟩

end Visit

/-! ### No fault -/

section NoFault
variable {s : State} (h : s.RunInv)
include h

/-- A pixel holds a value once the word that carries it is loaded (10 R41). -/
theorem State.RunInv.isSome_read {t col : Nat} (hload : MicroOp.load t (col / 4) ∈ s.prog.take s.seq) :
    (s.rowbuf.read (rowCellAddr t col)).isSome = true := by
  have := h.loaded t (col / 4) hload (col % 4) (Nat.mod_lt col (by decide))
  rwa [Nat.div_add_mod] at this

theorem load_answers {t i : Nat} (hop : s.prog[s.seq]? = some (.load t i)) :
    ∃ u, microOp (.load t i) s = .ok u := by
  obtain ⟨-, hi⟩ := load_mem_jobProg (List.mem_of_getElem? hop)
  have hfits := h.widthFits
  cases hq : s.inq with
  | nil => exact ⟨s, by simp [microOp, microLoad, hq]⟩
  | cons w rest =>
    have hcells := loadCells_of_lt (t := t) w s.rowbuf (show 4 * i + 3 < s.params.wMax by omega)
    exact ⟨_, microOp_load hq hcells⟩

theorem visit_answers {y x : Nat} (hop : s.prog[s.seq]? = some (.visit y x)) :
    ∃ u, microOp (.visit y x) s = .ok u := by
  obtain ⟨hx, -⟩ := visit_mem_jobProg (List.mem_of_getElem? hop)
  have h8 := h.widthMul8
  have hrows : RowsHold s.rowbuf s.jw.toNat y := fun t col _ hhi hcol =>
    h.isSome_read ((load_mem_take_visit hop).mpr ⟨by omega, by omega⟩)
  obtain ⟨m, hm⟩ := visitCells_answers (wrap := s.jwrap) h.widthFits (show x + 3 ≤ s.jw.toNat by omega) hrows
  exact ⟨_, microOp_visit hm⟩

theorem pack_answers {y b : Nat} (hop : s.prog[s.seq]? = some (.pack y b)) :
    ∃ u, microOp (.pack y b) s = .ok u := by
  obtain ⟨hy, hb⟩ := pack_mem_jobProg (List.mem_of_getElem? hop)
  obtain ⟨hloads, -⟩ := take_drop_pack hop
  have h8 := h.widthMul8
  have hfits := h.widthFits
  have hread (i : Nat) (hi : i < 8) : ∃ v, s.rowbuf.readCell s.params.wMax y (8 * b + i) = .ok v := by
    obtain ⟨c, hc⟩ := Option.isSome_iff_exists.mp
      (h.isSome_read ((hloads y ((8 * b + i) / 4)).mpr ⟨by omega, hy, by omega⟩))
    exact ⟨_, Memory.readCell_of_read (by omega) hc⟩
  choose! f hf using hread
  exact ⟨_, microOp_pack (packByte_of_reads f hf)⟩

/-- The micro-op at `seq` answers. -/
theorem microOp_answers {op : MicroOp} (hop : s.prog[s.seq]? = some op) : ∃ u, microOp op s = .ok u := by
  cases op with
  | hdr k => exact ⟨_, rfl⟩
  | load t i => exact load_answers h hop
  | visit y x => exact visit_answers h hop
  | pack y b => exact pack_answers h hop

end NoFault

theorem engineTurn_ne_fault {s : State} {f : Fault} (h : s.Inv) : engineTurn s ≠ .fault f := by
  intro hf
  obtain ⟨op, hc, -, ho⟩ := engineTurn_fault hf
  obtain ⟨hj, hop⟩ := currentOp_eq_some.mp hc
  obtain ⟨u, hu⟩ := microOp_answers (h.runInv hj) hop
  simp [hu] at ho

/-- Settles O55: only the engine's turn could fault, and the micro-op at `seq` answers because the rows it reads
are resident (42 R173). -/
theorem noStepFromTheInvariantFaults : Obligations.NoStepFromTheInvariantFaults := by
  intro s f h hstep
  obtain ⟨-, hf⟩ | ⟨rest, -, hf⟩ := step_fault hstep
  · exact engineTurn_ne_fault h hf
  · exact engineTurn_ne_fault (h.congr rfl) hf

/-! ### Progress -/

/-- While a LOAD is the current micro-op and INQ is empty, the job still needs words (42 R176). -/
theorem inRemain_ne_zero {s : State} {t i : Nat} (h : s.RunInv) (hop : s.prog[s.seq]? = some (.load t i))
    (hq : s.inq = []) : s.inRemain ≠ 0#32 := by
  have hmore : s.loadsDone < s.jh.toNat * (s.jw.toNat / 4) := by
    have hnext : (s.prog.take (s.seq + 1)).countP MicroOp.isLoad = s.loadsDone + 1 := by
      rw [take_seq_next hop, List.countP_append, List.countP_eq_length_filter, State.loadsDone]
      rfl
    have hsub := (List.take_sublist (s.seq + 1) s.prog).countP_le (p := MicroOp.isLoad)
    rw [hnext, State.prog, countP_isLoad_jobProg] at hsub
    exact hsub
  have hwords : s.jh.toNat * (s.jw.toNat / 4) = s.jw.toNat * s.jh.toNat / 4 := by
    rw [Nat.mul_comm s.jw.toNat, Nat.mul_div_assoc]
    have := h.widthMul8
    omega
  have hcount := h.wordCount
  rw [hq, List.length_nil] at hcount
  intro hzero
  rw [hzero, BitVec.toNat_ofNat] at hcount
  omega

/-- A push waits only while OUTQ is full, and then the host has a byte to read (42 R176). -/
theorem outq_full {s : State} (h : s.Inv) (hroom : ¬ s.outq.length < s.params.outDepth) :
    s.outq.length = s.params.outDepth ∧ s.outq ≠ [] := by
  obtain ⟨-, -, -, -, -, hout, -⟩ := h.paramsLegal
  have hbound := h.outqBound
  refine ⟨by omega, fun hnil => ?_⟩
  rw [hnil, List.length_nil] at hroom
  omega

/-- Settles O60, by the guard of the current micro-op: where it holds the micro-op answers (O55), and where it
does not it says what is waited for. -/
theorem unfinishedJobsProgressOrWaitForTheHost : Obligations.UnfinishedJobsProgressOrWaitForTheHost := by
  intro s h hj hseq
  have hrun := h.runInv hj
  obtain ⟨op, hop⟩ : ∃ op, s.prog[s.seq]? = some op := ⟨_, List.getElem?_eq_getElem hseq⟩
  have hc := currentOp_eq_some.mpr ⟨hj, hop⟩
  by_cases hg : guard op s = true
  · obtain ⟨u, hu⟩ := microOp_answers hrun hop
    exact .inl ⟨engineEnabled_iff.mpr ⟨op, hc, hg⟩, u, engineTurn_of_enabled hc hg hu, microOp_seq hg hu⟩
  · cases op with
    | hdr k => exact .inr (.inr ⟨.inl ⟨k, hop⟩, outq_full h (by simpa [guard] using hg)⟩)
    | load t i =>
      have hq : s.inq = [] := by simpa [guard] using hg
      exact .inr (.inl ⟨⟨t, i, hop⟩, hq, inRemain_ne_zero hrun hop hq⟩)
    | visit y x => simp [guard] at hg
    | pack y b => exact .inr (.inr ⟨.inr ⟨y, b, hop⟩, outq_full h (by simpa [guard] using hg)⟩)

end Sys2Proof.Machine

/-! The dense ditherer (43 R190): the pixels of an image, the rows a visit writes, and the range in which the
pixels stay (43 R195). -/

namespace Sys2Proof.Machine

/-! ### The pixels of an image -/

theorem Image.get_set_self {p : Image} {w h y x : Nat} (hp : p.hasSize w h) (hy : y < h) (hx : x < w) (n : Int) :
    Image.get (Image.set p y x n) y x = n := by
  obtain ⟨rfl, hrows⟩ := hp
  have hrow : x < p[y].length := by rw [hrows _ (List.getElem_mem hy)]; exact hx
  simp [Image.get, Image.set, hy, hrow]

theorem Image.get_set_ne (p : Image) {y x y' x' : Nat} (h : ¬ (y' = y ∧ x' = x)) (n : Int) :
    Image.get (Image.set p y x n) y' x' = Image.get p y' x' := by
  by_cases hy : y = y'
  · subst hy
    have hx : ¬ x = x' := fun hx => h ⟨rfl, hx.symm⟩
    by_cases hlen : y < p.length <;> simp [Image.get, Image.set, hx, hlen]
  · simp [Image.get, Image.set, hy]

/-- A pixel after a write is the written value or what it was; a write outside the image changes nothing. -/
theorem Image.get_set_cases (p : Image) (y x : Nat) (n : Int) (y' x' : Nat) :
    (Image.get (Image.set p y x n) y' x' = n ∧ y' = y ∧ x' = x) ∨
      Image.get (Image.set p y x n) y' x' = Image.get p y' x' := by
  by_cases h : y' = y ∧ x' = x
  · obtain ⟨rfl, rfl⟩ := h
    by_cases hy : y' < p.length
    · by_cases hx : x' < p[y'].length
      · exact .inl ⟨by simp [Image.get, Image.set, hy, hx], rfl, rfl⟩
      · exact .inr (by simp [Image.get, Image.set, hy, hx])
    · exact .inr (by simp [Image.get, Image.set, hy])
  · exact .inr (Image.get_set_ne p h n)

theorem Image.hasSize.set {p : Image} {w h : Nat} (hp : p.hasSize w h) (y x : Nat) (n : Int) :
    (Image.set p y x n).hasSize w h := by
  obtain ⟨rfl, hrows⟩ := hp
  refine ⟨by simp [Image.set], fun row hrow => ?_⟩
  by_cases hy : y < p.length
  · obtain hrow | rfl := List.mem_or_eq_of_mem_set hrow
    · exact hrows row hrow
    · simpa [hy] using hrows _ (List.getElem_mem hy)
  · rw [Image.set, List.set_eq_of_length_le (by omega)] at hrow
    exact hrows row hrow

theorem Image.hasSize_ofPixels (w h : Nat) (f : Nat → Nat → Int) : (Image.ofPixels w h f).hasSize w h := by
  refine ⟨by simp [Image.ofPixels], fun row hrow => ?_⟩
  obtain ⟨y, -, rfl⟩ := List.mem_map.mp hrow
  simp

theorem Image.get_ofPixels {w h y x : Nat} (hy : y < h) (hx : x < w) (f : Nat → Nat → Int) :
    Image.get (Image.ofPixels w h f) y x = f y x := by
  simp [Image.get, Image.ofPixels, hy, hx]

theorem Image.get_ofPixels_cases (w h y x : Nat) (f : Nat → Nat → Int) :
    Image.get (Image.ofPixels w h f) y x = f y x ∨ Image.get (Image.ofPixels w h f) y x = 0 := by
  by_cases hy : y < h
  · by_cases hx : x < w
    · exact .inl (Image.get_ofPixels hy hx f)
    · exact .inr (by simp [Image.get, Image.ofPixels, hy, hx])
  · exact .inr (by simp [Image.get, Image.ofPixels, hy])

/-! ### What a visit writes -/

/-- The visits `vs`, in order, on the dense array (43 R190). -/
def ditherVisits (w : Nat) (wrap : Bool) (vs : List (Nat × Nat)) (i : Image) : Image :=
  vs.foldl (fun p yx => ditherVisit w wrap p yx.1 yx.2) i

theorem dither_eq_ditherVisits (i : Image) (w h : Nat) (wrap : Bool) :
    dither i w h wrap = ditherVisits w wrap (visitOrder w h) i := rfl

theorem ditherVisits_append (w : Nat) (wrap : Bool) (vs vs' : List (Nat × Nat)) (i : Image) :
    ditherVisits w wrap (vs ++ vs') i = ditherVisits w wrap vs' (ditherVisits w wrap vs i) :=
  List.foldl_append ..

theorem ditherEntry_of_target {w y x tx ty : Nat} {wrap : Bool} {k : KernelEntry}
    (h : target x y w wrap k = some (tx, ty)) (e : Int) (p : Image) :
    ditherEntry w wrap y x e p k = Image.set p ty tx (diff (Image.get p ty tx) e k.w) := by
  simp [ditherEntry, h]

theorem ditherEntry_of_discarded {w y x : Nat} {wrap : Bool} {k : KernelEntry}
    (h : target x y w wrap k = none) (e : Int) (p : Image) : ditherEntry w wrap y x e p k = p := by
  simp [ditherEntry, h]

theorem Image.hasSize.ditherEntry {p : Image} {w h w' y x : Nat} {wrap : Bool} (hp : p.hasSize w h) (e : Int)
    (k : KernelEntry) : (ditherEntry w' wrap y x e p k).hasSize w h := by
  cases ht : target x y w' wrap k with
  | none => rwa [ditherEntry_of_discarded ht]
  | some q => rw [ditherEntry_of_target ht]; exact hp.set ..

theorem Image.hasSize.foldl_ditherEntry {w h w' y x : Nat} {wrap : Bool} (e : Int) (ks : List KernelEntry)
    {p : Image} (hp : p.hasSize w h) : (ks.foldl (Machine.ditherEntry w' wrap y x e) p).hasSize w h := by
  induction ks generalizing p with
  | nil => exact hp
  | cons k rest ih => exact ih (hp.ditherEntry e k)

theorem Image.hasSize.ditherVisits {w h w' : Nat} {wrap : Bool} (vs : List (Nat × Nat)) {p : Image}
    (hp : p.hasSize w h) : (ditherVisits w' wrap vs p).hasSize w h := by
  induction vs generalizing p with
  | nil => exact hp
  | cons v rest ih => exact ih ((hp.set ..).foldl_ditherEntry _ kernel)

theorem get_ditherEntry_row {w y x t col : Nat} {wrap : Bool} {k : KernelEntry} (hk : k ∈ kernel)
    (ht : t < y ∨ y + 2 < t) (e : Int) (p : Image) :
    Image.get (ditherEntry w wrap y x e p k) t col = Image.get p t col := by
  cases hq : target x y w wrap k with
  | none => rw [ditherEntry_of_discarded hq]
  | some q =>
    obtain ⟨hlo, hhi⟩ := target_row hk hq
    rw [ditherEntry_of_target hq, Image.get_set_ne]
    omega

theorem get_foldl_ditherEntry_row {w y x t col : Nat} {wrap : Bool} {ks : List KernelEntry}
    (hks : ∀ k ∈ ks, k ∈ kernel) (ht : t < y ∨ y + 2 < t) (e : Int) (p : Image) :
    Image.get (ks.foldl (ditherEntry w wrap y x e) p) t col = Image.get p t col := by
  induction ks generalizing p with
  | nil => rfl
  | cons k rest ih =>
    obtain ⟨hk, hrest⟩ := List.forall_mem_cons.mp hks
    rw [List.foldl_cons, ih hrest, get_ditherEntry_row hk ht]

/-- A visit of row `y` writes rows `y` to `y + 2` alone (43 R187). -/
theorem get_ditherVisit_row {w y x t col : Nat} {wrap : Bool} (ht : t < y ∨ y + 2 < t) (p : Image) :
    Image.get (ditherVisit w wrap p y x) t col = Image.get p t col := by
  rw [ditherVisit, get_foldl_ditherEntry_row (fun _ => id) ht, Image.get_set_ne]
  omega

theorem get_ditherVisits_row {w t col : Nat} {wrap : Bool} {vs : List (Nat × Nat)}
    (hvs : ∀ v ∈ vs, t < v.1 ∨ v.1 + 2 < t) (p : Image) :
    Image.get (ditherVisits w wrap vs p) t col = Image.get p t col := by
  induction vs generalizing p with
  | nil => rfl
  | cons v rest ih =>
    obtain ⟨hv, hrest⟩ := List.forall_mem_cons.mp hvs
    exact (ih hrest _).trans (get_ditherVisit_row hv p)

/-! ### The range of the pixels (43 R195)

A pixel moves away from `[0, 255]` by at most 128/48 for each unit of weight it has received, and it receives
each kernel entry at most once, so 48 units in all. -/

/-- Every pixel is within `[0, 255]` widened by 128/48 for each unit of the weight `W` it has received. -/
def WithinShares (p : Image) (W : Nat → Nat → Int) : Prop :=
  ∀ y x, 0 ≤ W y x ∧ -128 * W y x ≤ 48 * Image.get p y x ∧ 48 * Image.get p y x ≤ 48 * 255 + 128 * W y x

/-- The weight that entry `k` of the visit of `(y, x)` gives to pixel `(ty, tx)`. -/
def share (w : Nat) (wrap : Bool) (y x ty tx : Nat) (k : KernelEntry) : Int :=
  if target x y w wrap k = some (tx, ty) then k.w else 0

/-- The weight that pixel `(ty, tx)` has received from the visits `vs`. -/
def received (w : Nat) (wrap : Bool) (vs : List (Nat × Nat)) (ty tx : Nat) : Int :=
  (kernel.map fun k => k.w * (vs.countP fun v => target v.2 v.1 w wrap k = some (tx, ty) : Nat)).sum

theorem WithinShares.range {p : Image} {W : Nat → Nat → Int} (h : WithinShares p W) {y x : Nat}
    (hW : W y x ≤ 48) : -128 ≤ Image.get p y x ∧ Image.get p y x ≤ 383 := by
  obtain ⟨-, hlo, hhi⟩ := h y x
  omega

/-- The error of a visited pixel (43 R195). -/
theorem thr_error_range {v : Int} (hlo : -128 ≤ v) (hhi : v ≤ 383) : -128 ≤ v - thr v ∧ v - thr v ≤ 128 := by
  unfold thr
  split <;> omega

theorem thr_range (v : Int) : 0 ≤ thr v ∧ thr v ≤ 255 := by
  unfold thr
  split <;> omega

/-- Truncation toward zero keeps 48 times the quotient between zero and the numerator (43 R186). -/
theorem diff_between (s e w : Int) :
    (0 ≤ 48 * diff s e w ∧ 48 * diff s e w ≤ 48 * s + w * e) ∨
      (48 * s + w * e ≤ 48 * diff s e w ∧ 48 * diff s e w ≤ 0) := by
  unfold diff
  generalize 48 * s + w * e = n
  obtain hn | hn := le_total 0 n
  · rw [Int.tdiv_eq_ediv_of_nonneg hn]
    omega
  · have hneg : n.tdiv 48 = -((-n) / 48) := by
      rw [← Int.tdiv_eq_ediv_of_nonneg (by omega), Int.neg_tdiv, neg_neg]
    rw [hneg]
    omega

theorem WithinShares.set {p : Image} {W : Nat → Nat → Int} (h : WithinShares p W) {y x : Nat} {n : Int}
    (hlo : -128 * W y x ≤ 48 * n) (hhi : 48 * n ≤ 48 * 255 + 128 * W y x) :
    WithinShares (Image.set p y x n) W := by
  intro y' x'
  obtain ⟨hW, hold⟩ := h y' x'
  refine ⟨hW, ?_⟩
  obtain ⟨hget, rfl, rfl⟩ | hget := Image.get_set_cases p y x n y' x'
  · rw [hget]; exact ⟨hlo, hhi⟩
  · rw [hget]; exact hold

/-- More weight is more room. -/
theorem WithinShares.mono {p : Image} {W W' : Nat → Nat → Int} (h : WithinShares p W)
    (hW : ∀ y x, W y x ≤ W' y x) : WithinShares p W' := by
  intro y x
  obtain ⟨h0, hlo, hhi⟩ := h y x
  have := hW y x
  exact ⟨by omega, by omega, by omega⟩

theorem share_nonneg {w y x ty tx : Nat} {wrap : Bool} {k : KernelEntry} (hk : 0 ≤ k.w) :
    0 ≤ share w wrap y x ty tx k := by
  unfold share
  split <;> omega

section Visit
variable {w y x : Nat} {wrap : Bool} {e : Int} (hlo : -128 ≤ e) (hhi : e ≤ 128)
include hlo hhi

theorem WithinShares.ditherEntry {k : KernelEntry} (hk : 0 ≤ k.w) {p : Image} {W : Nat → Nat → Int}
    (h : WithinShares p W) :
    WithinShares (ditherEntry w wrap y x e p k) (fun ty tx => W ty tx + share w wrap y x ty tx k) := by
  have hmono := h.mono (W' := fun ty tx => W ty tx + share w wrap y x ty tx k) fun ty tx => by
    have := share_nonneg (w := w) (y := y) (x := x) (ty := ty) (tx := tx) (wrap := wrap) hk
    omega
  cases hq : target x y w wrap k with
  | none => rwa [ditherEntry_of_discarded hq]
  | some q =>
    obtain ⟨tx, ty⟩ := q
    obtain ⟨h0, hold⟩ := h ty tx
    have hshare : share w wrap y x ty tx k = k.w := if_pos hq
    have hprod : -128 * k.w ≤ k.w * e ∧ k.w * e ≤ 128 * k.w := by constructor <;> nlinarith
    have hdiff := diff_between (Image.get p ty tx) e k.w
    rw [ditherEntry_of_target hq]
    refine hmono.set ?_ ?_
    all_goals
      rw [hshare]
      omega

theorem WithinShares.foldl_ditherEntry {ks : List KernelEntry} (hks : ∀ k ∈ ks, 0 ≤ k.w) {p : Image}
    {W : Nat → Nat → Int} (h : WithinShares p W) : WithinShares (ks.foldl (Machine.ditherEntry w wrap y x e) p)
      (fun ty tx => W ty tx + (ks.map (share w wrap y x ty tx)).sum) := by
  induction ks generalizing p W with
  | nil => simpa using h
  | cons k rest ih =>
    obtain ⟨hk, hrest⟩ := List.forall_mem_cons.mp hks
    have hstep := ih hrest (h.ditherEntry (w := w) (y := y) (x := x) (wrap := wrap) hlo hhi hk)
    simpa only [List.foldl_cons, List.map_cons, List.sum_cons, ← add_assoc] using hstep

end Visit

/-- One visit of a pixel that has received at most 48 units. -/
theorem WithinShares.ditherVisit {w y x : Nat} {wrap : Bool} {p : Image} {W : Nat → Nat → Int}
    (h : WithinShares p W) (hW : W y x ≤ 48) : WithinShares (ditherVisit w wrap p y x)
      (fun ty tx => W ty tx + (kernel.map (share w wrap y x ty tx)).sum) := by
  obtain ⟨hlo, hhi⟩ := h.range hW
  obtain ⟨helo, hehi⟩ := thr_error_range hlo hhi
  obtain ⟨htlo, hthi⟩ := thr_range (Image.get p y x)
  obtain ⟨h0, -⟩ := h y x
  exact (h.set (by omega) (by omega)).foldl_ditherEntry helo hehi fun k hk => (kernel_bounds k hk).2.2.2

/-! ### The weight a pixel receives -/

theorem received_nil (w : Nat) (wrap : Bool) (ty tx : Nat) : received w wrap [] ty tx = 0 := by
  simp [received]

theorem received_concat (w : Nat) (wrap : Bool) (vs : List (Nat × Nat)) (y x ty tx : Nat) :
    received w wrap (vs ++ [(y, x)]) ty tx =
      received w wrap vs ty tx + (kernel.map (share w wrap y x ty tx)).sum := by
  rw [received, received, ← List.sum_map_add]
  congr 1
  refine List.map_congr_left fun k _ => ?_
  rw [List.countP_append, List.countP_singleton, share]
  by_cases hq : target x y w wrap k = some (tx, ty) <;> simp [hq, mul_add]

/-- Two visited pixels have no target of one entry in common: the wrapped targets are in the columns right of
those the unwrapped ones reach. -/
theorem target_inj {w y x y' x' tx ty : Nat} {wrap : Bool} {k : KernelEntry} (hk : k ∈ kernel) (hx : x + 3 ≤ w)
    (hx' : x' + 3 ≤ w) (h : target x y w wrap k = some (tx, ty)) (h' : target x' y' w wrap k = some (tx, ty)) :
    (y, x) = (y', x') := by
  obtain ⟨hlo, hhi, -, -⟩ := kernel_bounds k hk
  obtain ⟨hrow, hcol⟩ := target_some h
  obtain ⟨hrow', hcol'⟩ := target_some h'
  rw [Prod.mk.injEq]
  omega

theorem length_le_one_of_nodup {α : Type} {l : List α} (hl : l.Nodup) (heq : ∀ a ∈ l, ∀ b ∈ l, a = b) :
    l.length ≤ 1 := by
  match l with
  | [] => simp
  | [a] => simp
  | a :: b :: rest =>
    have hab : a = b := heq a (by simp) b (by simp)
    simp [hab] at hl

/-- Pixel `(ty, tx)` receives each entry at most once, so at most the kernel's 48 units. -/
theorem received_le {w : Nat} {wrap : Bool} {vs : List (Nat × Nat)} (hnodup : vs.Nodup)
    (hcol : ∀ v ∈ vs, v.2 + 3 ≤ w) (ty tx : Nat) : received w wrap vs ty tx ≤ 48 := by
  have honce (k : KernelEntry) (hk : k ∈ kernel) :
      vs.countP (fun v => target v.2 v.1 w wrap k = some (tx, ty)) ≤ 1 := by
    rw [List.countP_eq_length_filter]
    refine length_le_one_of_nodup (hnodup.filter _) fun v hv v' hv' => ?_
    obtain ⟨hv, ht⟩ := List.mem_filter.mp hv
    obtain ⟨hv', ht'⟩ := List.mem_filter.mp hv'
    exact target_inj hk (hcol v hv) (hcol v' hv') (of_decide_eq_true ht) (of_decide_eq_true ht')
  calc received w wrap vs ty tx ≤ (kernel.map KernelEntry.w).sum := by
        refine List.sum_le_sum fun k hk => ?_
        obtain ⟨-, -, -, hw⟩ := kernel_bounds k hk
        have := honce k hk
        nlinarith
    _ = 48 := by decide

theorem mem_visitOrder {w h : Nat} {v : Nat × Nat} (hv : v ∈ visitOrder w h) : v.1 + 3 ≤ h ∧ v.2 + 3 ≤ w := by
  obtain ⟨y, hy, hv⟩ := List.mem_flatMap.mp hv
  obtain ⟨x, hx, rfl⟩ := List.mem_map.mp hv
  rw [List.mem_range] at hy hx
  exact ⟨by omega, by omega⟩

theorem nodup_visitOrder (w h : Nat) : (visitOrder w h).Nodup := by
  rw [visitOrder, ← List.product.eq_1]
  exact List.nodup_range.product List.nodup_range

/-- 43 R195 on the dense array, with the weight each pixel has received. -/
theorem withinShares_ditherVisits {w : Nat} {wrap : Bool} {i : Image}
    (hi : ∀ y x, 0 ≤ Image.get i y x ∧ Image.get i y x ≤ 255) (vs : List (Nat × Nat)) (hnodup : vs.Nodup)
    (hcol : ∀ v ∈ vs, v.2 + 3 ≤ w) : WithinShares (ditherVisits w wrap vs i) (received w wrap vs) := by
  induction vs using List.reverseRecOn with
  | nil =>
    intro y x
    obtain ⟨hlo, hhi⟩ := hi y x
    rw [received_nil, ditherVisits, List.foldl_nil]
    omega
  | append_singleton vs v ih =>
    have hvs : vs.Nodup := (List.nodup_append.mp hnodup).1
    have hcol' : ∀ v ∈ vs, v.2 + 3 ≤ w := fun v hv => hcol v (List.mem_append_left _ hv)
    have hstep := (ih hvs hcol').ditherVisit (wrap := wrap) (w := w) (received_le hvs hcol' v.1 v.2)
    simp only [← received_concat] at hstep
    rwa [ditherVisits_append]

end Sys2Proof.Machine

/-! The engine on ROWBUF against the dense ditherer: a VISIT (43 R185, R190), and the order of the LOADs. -/

namespace Sys2Proof.Machine

/-! ### A VISIT refines the dense visit -/

/-- The cells of rows `y` to `y + 2` hold the pixels of the dense array. -/
def RowsAgree (m : Memory) (p : Image) (w y : Nat) : Prop :=
  ∀ t col, y ≤ t → t ≤ y + 2 → col < w → m.read (rowCellAddr t col) = some (cellOfInt (Image.get p t col))

/-- A cell that holds a pixel in the range of 43 R195 reads as that pixel. -/
theorem readCell_of_range {m : Memory} {wMax t col : Nat} {v : Int} (hcol : col < wMax)
    (hr : m.read (rowCellAddr t col) = some (cellOfInt v)) (hv : -128 ≤ v ∧ v ≤ 383) :
    m.readCell wMax t col = .ok v := by
  rw [Memory.readCell_of_read hcol hr, cellOfInt_toInt (by omega) (by omega)]

theorem RowsAgree.readCell {m : Memory} {wMax w y : Nat} {p : Image} {W : Nat → Nat → Int}
    (hfits : w ≤ wMax) (hm : RowsAgree m p w y) (hp : WithinShares p W) {t col : Nat} (hlo : y ≤ t)
    (hhi : t ≤ y + 2) (hcol : col < w) (hW : W t col ≤ 48) : m.readCell wMax t col = .ok (Image.get p t col) :=
  readCell_of_range (by omega) (hm t col hlo hhi hcol) (hp.range hW)

section Visit
variable {wMax w h y x : Nat} {wrap : Bool} (hfits : w ≤ wMax) (hw : w ≤ 65536) (hx : x + 3 ≤ w)
  (hy : y + 3 ≤ h)
include hfits hw hy

theorem RowsAgree.writeCell {m : Memory} {p : Image} (hm : RowsAgree m p w y) (hp : p.hasSize w h)
    {t col : Nat} (hlo : y ≤ t) (hhi : t ≤ y + 2) (hcol : col < w) (n : Int) :
    ∃ m', m.writeCell wMax t col n = .ok m' ∧ RowsAgree m' (Image.set p t col n) w y := by
  refine ⟨_, Memory.writeCell_of_lt n (by omega), fun t' col' hlo' hhi' hcol' => ?_⟩
  by_cases hsame : t' = t ∧ col' = col
  · obtain ⟨rfl, rfl⟩ := hsame
    rw [Memory.read_write_same, Image.get_set_self hp (by omega) hcol]
  · have haddr : rowCellAddr t' col' ≠ rowCellAddr t col := by
      rw [Ne, rowCellAddr_inj (by omega) (by omega)]
      omega
    rw [Memory.read_write_other _ haddr, Image.get_set_ne _ hsame]
    exact hm t' col' hlo' hhi' hcol'

include hx

theorem diffuseEntry_refines {k : KernelEntry} (hk : k ∈ kernel) (e : Int) {m : Memory} {p : Image}
    {W : Nat → Nat → Int} (hm : RowsAgree m p w y) (hp : p.hasSize w h) (hshare : WithinShares p W)
    (hW : ∀ t col, W t col ≤ 48) :
    ∃ m', diffuseEntry wMax w wrap y x e k m = .ok m' ∧ RowsAgree m' (ditherEntry w wrap y x e p k) w y := by
  unfold diffuseEntry
  cases hq : target x y w wrap k with
  | none => exact ⟨m, rfl, by rwa [ditherEntry_of_discarded hq]⟩
  | some q =>
    obtain ⟨tx, ty⟩ := q
    have htx := target_col hk hx hq
    obtain ⟨hlo, hhi⟩ := target_row hk hq
    simp only [hm.readCell hfits hshare hlo hhi htx (hW ty tx)]
    rw [ditherEntry_of_target hq]
    exact hm.writeCell hfits hw hy hp hlo hhi htx _

/-- The kernel's entries, where no pixel receives more than 48 units from them and before. -/
theorem diffuse_refines {ks : List KernelEntry} (hks : ∀ k ∈ ks, k ∈ kernel) {e : Int} (helo : -128 ≤ e)
    (hehi : e ≤ 128) {m : Memory} {p : Image} {W : Nat → Nat → Int} (hm : RowsAgree m p w y)
    (hp : p.hasSize w h) (hshare : WithinShares p W)
    (hW : ∀ t col, W t col + (ks.map (share w wrap y x t col)).sum ≤ 48) :
    ∃ m', diffuse wMax w wrap y x e ks m = .ok m' ∧
      RowsAgree m' (ks.foldl (ditherEntry w wrap y x e) p) w y := by
  induction ks generalizing m p W with
  | nil => exact ⟨m, rfl, hm⟩
  | cons k rest ih =>
    obtain ⟨hk, hrest⟩ := List.forall_mem_cons.mp hks
    have hweight : 0 ≤ k.w := (kernel_bounds k hk).2.2.2
    have hsum (t col : Nat) : 0 ≤ ((k :: rest).map (share w wrap y x t col)).sum :=
      List.sum_nonneg fun a ha => by
        obtain ⟨k', hk', rfl⟩ := List.mem_map.mp ha
        exact share_nonneg (kernel_bounds k' (hks k' hk')).2.2.2
    obtain ⟨m1, h1, hm1⟩ := diffuseEntry_refines (wrap := wrap) hfits hw hx hy hk e hm hp hshare fun t col => by
      have := hW t col
      have := hsum t col
      omega
    obtain ⟨m2, h2, hm2⟩ := ih hrest hm1 (hp.ditherEntry e k)
      (hshare.ditherEntry (w := w) (y := y) (x := x) (wrap := wrap) helo hehi hweight) fun t col => by
        simpa only [List.map_cons, List.sum_cons, ← add_assoc] using hW t col
    exact ⟨m2, by simp only [diffuse, h1, h2], hm2⟩

/-- VISIT(y, x) leaves in rows `y` to `y + 2` what the dense visit leaves there (43 R190). -/
theorem visitCells_refines {m : Memory} {p : Image} {W : Nat → Nat → Int} (hm : RowsAgree m p w y)
    (hp : p.hasSize w h) (hshare : WithinShares p W)
    (hW : ∀ t col, W t col + (kernel.map (share w wrap y x t col)).sum ≤ 48) (hWx : W y x ≤ 48) :
    ∃ m', visitCells wMax w wrap y x m = .ok m' ∧ RowsAgree m' (ditherVisit w wrap p y x) w y := by
  have hcol : x < w := by omega
  obtain ⟨hlo, hhi⟩ := hshare.range hWx
  obtain ⟨helo, hehi⟩ := thr_error_range hlo hhi
  obtain ⟨htlo, hthi⟩ := thr_range (Image.get p y x)
  obtain ⟨h0, -⟩ := hshare y x
  obtain ⟨m1, h1, hm1⟩ := hm.writeCell hfits hw hy hp le_rfl (by omega) hcol (thr (Image.get p y x))
  obtain ⟨m2, h2, hm2⟩ := diffuse_refines (wrap := wrap) hfits hw hx hy (fun _ => id) helo hehi hm1 (hp.set ..)
    (hshare.set (by omega) (by omega)) hW
  refine ⟨m2, ?_, hm2⟩
  simp only [visitCells, hm.readCell hfits hshare le_rfl (by omega) hcol hWx, h1, h2]

end Visit

/-! ### The order of the LOADs, by number -/

/-- The number of a word in the job: words come row by row (40 R118). -/
def wordIndex (q : Nat) (p : Nat × Nat) : Nat := p.1 * q + p.2

theorem map_wordIndex_rows (q h : Nat) :
    ((List.range h).flatMap (rowPairs q)).map (wordIndex q) = List.range (h * q) := by
  induction h with
  | zero => simp
  | succ h ih =>
    rw [List.range_succ, List.flatMap_append, List.map_append, ih, List.flatMap_singleton, Nat.succ_mul,
      List.range_add]
    simp [rowPairs, wordIndex]

theorem eq_range_of_prefix {l : List Nat} {n : Nat} (h : l <+: List.range n) : l = List.range l.length := by
  have hlen := h.length_le
  rw [List.length_range] at hlen
  conv_lhs => rw [List.prefix_iff_eq_take.mp h, List.take_range, Nat.min_eq_left hlen]

/-- How many LOADs a list of micro-ops has. -/
theorem length_filterMap_loadOf (ops : List MicroOp) :
    (ops.filterMap MicroOp.loadOf).length = (ops.filter MicroOp.isLoad).length := by
  rw [List.length_filterMap_eq_countP, ← List.countP_eq_length_filter]
  congr 1
  funext op
  cases op <;> rfl

/-- The LOADs of a beginning of the program are the first words, in order. -/
theorem map_wordIndex_take (jw jh n : Nat) :
    (((jobProg jw jh).take n).filterMap MicroOp.loadOf).map (wordIndex (jw / 4)) =
      List.range (((jobProg jw jh).take n).filter MicroOp.isLoad).length := by
  have hpre : (((jobProg jw jh).take n).filterMap MicroOp.loadOf).map (wordIndex (jw / 4)) <+:
      List.range (jh * (jw / 4)) := by
    rw [← map_wordIndex_rows, ← filterMap_loadOf_jobProg]
    exact ((List.take_prefix n _).filterMap _).map _
  rw [eq_range_of_prefix hpre, List.length_map, length_filterMap_loadOf]

theorem mem_filterMap_loadOf {ops : List MicroOp} {t i : Nat} :
    (t, i) ∈ ops.filterMap MicroOp.loadOf ↔ MicroOp.load t i ∈ ops := by
  constructor
  · intro hm
    obtain ⟨op, hop, he⟩ := List.mem_filterMap.mp hm
    cases op with
    | load t' i' =>
      cases he
      exact hop
    | _ => simp [MicroOp.loadOf] at he
  · exact fun hm => List.mem_filterMap.mpr ⟨_, hm, rfl⟩

/-- Which LOADs are done: the words below the number of LOADs done (42 R162). -/
theorem load_mem_take_iff {jw jh n t i : Nat} (hi : i < jw / 4) : MicroOp.load t i ∈ (jobProg jw jh).take n ↔
    t * (jw / 4) + i < (((jobProg jw jh).take n).filter MicroOp.isLoad).length := by
  rw [← List.mem_range, ← map_wordIndex_take, List.mem_map]
  constructor
  · exact fun hm => ⟨(t, i), mem_filterMap_loadOf.mpr hm, rfl⟩
  · rintro ⟨⟨t', i'⟩, hm, he⟩
    rw [mem_filterMap_loadOf] at hm
    obtain ⟨-, hi'⟩ := load_mem_jobProg (List.mem_of_mem_take hm)
    have hpair : t' = t ∧ i' = i := by
      simp only [wordIndex] at he
      have hdiv := congrArg (· / (jw / 4)) he
      have hpos : 0 < jw / 4 := by omega
      simp only [Nat.mul_comm _ (jw / 4), Nat.mul_add_div hpos, Nat.div_eq_of_lt hi', Nat.div_eq_of_lt hi,
        Nat.add_zero] at hdiv
      subst hdiv
      exact ⟨rfl, by omega⟩
    obtain ⟨rfl, rfl⟩ := hpair
    exact hm

section Load
variable {jw jh n t i : Nat} (h : (jobProg jw jh)[n]? = some (.load t i))
include h

/-- LOAD(t, i) consumes the job's word `t·(JW/4) + i`. -/
theorem length_loads_of_load :
    (((jobProg jw jh).take n).filter MicroOp.isLoad).length = t * (jw / 4) + i := by
  have hlast := map_wordIndex_take jw jh (n + 1)
  have hone : ((some (MicroOp.load t i)).toList.filter MicroOp.isLoad).length = 1 := rfl
  rw [List.take_add_one, h, List.filterMap_append, List.filter_append, List.map_append, map_wordIndex_take,
    List.length_append, hone, List.range_succ] at hlast
  simpa [MicroOp.loadOf, wordIndex, eq_comm] using hlast

/-- At LOAD(t, i) the LOADs done are those of the words before it. -/
theorem load_mem_take_load {t' i' : Nat} (hi' : i' < jw / 4) :
    MicroOp.load t' i' ∈ (jobProg jw jh).take n ↔ t' * (jw / 4) + i' < t * (jw / 4) + i := by
  rw [load_mem_take_iff hi', length_loads_of_load h]

/-- At a LOAD of row `t` no VISIT has written row `t` (42 R173). -/
theorem visit_mem_take_load {y x : Nat} (hm : MicroOp.visit y x ∈ (jobProg jw jh).take n) : y + 2 < t := by
  obtain ⟨-, hi⟩ := load_mem_jobProg (List.mem_of_getElem? h)
  obtain ⟨m, hlt, hm⟩ := List.mem_take_iff_getElem.mp hm
  by_contra hrow
  have hop : (jobProg jw jh)[m]? = some (.visit y x) := List.getElem?_eq_some_iff.mpr ⟨_, hm⟩
  have hearly : MicroOp.load t i ∈ (jobProg jw jh).take m := (load_mem_take_visit hop).mpr ⟨hi, by omega⟩
  have hdone : MicroOp.load t i ∈ (jobProg jw jh).take n :=
    (List.take_subset_take_left _ (by omega)) hearly
  exact lt_irrefl _ ((load_mem_take_load h hi).mp hdone)

end Load

end Sys2Proof.Machine

/-! A running job against its stream (42 R172): what the engine has pushed, and what ROWBUF holds, after each
micro-op; and from it O50. -/

namespace Sys2Proof.Machine

/-! ### A job's image and stream -/

/-- The image that the job's words carry. -/
def State.image (s : State) (words : List Word) : Image := imageOfWords words s.jw.toNat s.jh.toNat

/-- The dense array after the VISITs among the program's first `n` micro-ops. -/
def State.dithered (s : State) (words : List Word) (n : Nat) : Image :=
  ditherVisits s.jw.toNat s.jwrap ((s.prog.take n).filterMap MicroOp.visitOf) (s.image words)

/-- The job's STREAM (42 R172). -/
def State.jobStream (s : State) (words : List Word) : List Byte :=
  stream (s.image words) s.jw.toNat s.jh.toNat s.jdw s.jdh s.jwrap

/-- The byte of STREAM that a micro-op has to push. -/
def State.opByte (s : State) (words : List Word) (op : MicroOp) : Option Byte :=
  match op with
  | .hdr k => some (headerByte s.jw.toNat s.jh.toNat s.jdw s.jdh k)
  | .pack y b => some (denseByte (dither (s.image words) s.jw.toNat s.jh.toNat s.jwrap) y b)
  | .load _ _ => none
  | .visit _ _ => none

section Job
variable (s : State) (words : List Word)

theorem filterMap_opByte_hdrOps :
    hdrOps.filterMap (s.opByte words) = header s.jw.toNat s.jh.toNat s.jdw s.jdh := rfl

theorem filterMap_opByte_rowStep (jw jh y : Nat) : (rowStep jw jh y).filterMap (s.opByte words) =
    (List.range (jw / 8)).map (denseByte (dither (s.image words) s.jw.toNat s.jh.toNat s.jwrap) y) := by
  have hvisit : (visitRow jw y).filterMap (s.opByte words) = [] := filterMap_row_none _ _ (fun _ => rfl) _
  have hload : (loadRow jw (y + 3)).filterMap (s.opByte words) = [] := filterMap_row_none _ _ (fun _ => rfl) _
  have hpack := filterMap_row_some (s.opByte words) (MicroOp.pack y) (fun _ => rfl) (jw / 8)
  rw [rowStep, List.filterMap_append, List.filterMap_append, packRow, hpack]
  split <;> split <;> simp [hvisit, hload]

/-- The program's pushes make up STREAM. -/
theorem filterMap_opByte_prog : s.prog.filterMap (s.opByte words) = s.jobStream words := by
  have hload (t : Nat) : (loadRow s.jw.toNat t).filterMap (s.opByte words) = [] :=
    filterMap_row_none _ _ (fun _ => rfl) _
  simp [State.prog, jobProg, List.filterMap_flatMap, hload, filterMap_opByte_hdrOps, filterMap_opByte_rowStep,
    State.jobStream, stream, packAll]

theorem filterMap_visitOf_prog : s.prog.filterMap MicroOp.visitOf = visitOrder s.jw.toNat s.jh.toNat :=
  filterMap_visitOf_jobProg _ _

/-! ### The dense array on the way -/

theorem image_range (y x : Nat) : 0 ≤ Image.get (s.image words) y x ∧ Image.get (s.image words) y x ≤ 255 := by
  obtain hpix | hzero := Image.get_ofPixels_cases s.jw.toNat s.jh.toNat y x
    fun y x => pixelOfWord (words.getD ((y * s.jw.toNat + x) / 4) 0#32) ((y * s.jw.toNat + x) % 4)
  · rw [State.image, imageOfWords, hpix]
    exact pixelOfWord_range _ _
  · rw [State.image, imageOfWords, hzero]
    omega

theorem hasSize_dithered (n : Nat) : (s.dithered words n).hasSize s.jw.toNat s.jh.toNat :=
  (Image.hasSize_ofPixels ..).ditherVisits _

/-- The visits done are a beginning of the scan order, so no pixel has received more than 48 units. -/
theorem visits_take (n : Nat) : ((s.prog.take n).filterMap MicroOp.visitOf).Nodup ∧
    ∀ v ∈ (s.prog.take n).filterMap MicroOp.visitOf, v.2 + 3 ≤ s.jw.toNat := by
  have hpre := (List.take_prefix n s.prog).filterMap MicroOp.visitOf
  rw [filterMap_visitOf_prog] at hpre
  exact ⟨hpre.sublist.nodup (nodup_visitOrder _ _), fun v hv => (mem_visitOrder (hpre.subset hv)).2⟩

/-- The weight each pixel has received from the visits done. -/
def State.weight (n : Nat) : Nat → Nat → Int :=
  received s.jw.toNat s.jwrap ((s.prog.take n).filterMap MicroOp.visitOf)

theorem weight_le (n t col : Nat) : s.weight n t col ≤ 48 := by
  obtain ⟨hnodup, hcol⟩ := visits_take s n
  exact received_le hnodup hcol t col

theorem withinShares_dithered (n : Nat) : WithinShares (s.dithered words n) (s.weight n) := by
  obtain ⟨hnodup, hcol⟩ := visits_take s n
  exact withinShares_ditherVisits (image_range s words) _ hnodup hcol

end Job

section Next
variable {s : State} {op : MicroOp} (words : List Word) (hop : s.prog[s.seq]? = some op)
include hop

theorem dithered_next_of_none (hv : op.visitOf = none) :
    s.dithered words (s.seq + 1) = s.dithered words s.seq := by
  simp [State.dithered, take_seq_next hop, hv]

theorem dithered_next_of_visit {y x : Nat} (hv : op = .visit y x) : s.dithered words (s.seq + 1) =
    ditherVisit s.jw.toNat s.jwrap (s.dithered words s.seq) y x := by
  subst hv
  rw [State.dithered, take_seq_next hop, List.filterMap_append, ditherVisits_append]
  rfl

theorem weight_next_of_visit {y x : Nat} (hv : op = .visit y x) (t col : Nat) : s.weight (s.seq + 1) t col =
    s.weight s.seq t col + (kernel.map (share s.jw.toNat s.jwrap y x t col)).sum := by
  subst hv
  rw [State.weight, take_seq_next hop, List.filterMap_append]
  exact received_concat ..

theorem opBytes_next : (s.prog.take (s.seq + 1)).filterMap (s.opByte words) =
    (s.prog.take s.seq).filterMap (s.opByte words) ++ (s.opByte words op).toList := by
  rw [take_seq_next hop, List.filterMap_append]
  cases hb : s.opByte words op <;> simp [hb]

end Next

/-- At PACK(y, b) the dense array has row `y` as the whole dither leaves it: every later VISIT is of a row
below (42 R173). -/
theorem dithered_row_at_pack {s : State} {y b : Nat} (words : List Word)
    (hop : s.prog[s.seq]? = some (.pack y b)) (col : Nat) :
    Image.get (dither (s.image words) s.jw.toNat s.jh.toNat s.jwrap) y col =
      Image.get (s.dithered words s.seq) y col := by
  obtain ⟨-, hlater⟩ := take_drop_pack hop
  have hsplit : visitOrder s.jw.toNat s.jh.toNat = (s.prog.take s.seq).filterMap MicroOp.visitOf ++
      (s.prog.drop s.seq).filterMap MicroOp.visitOf := by
    rw [← List.filterMap_append, List.take_append_drop, filterMap_visitOf_prog]
  rw [dither_eq_ditherVisits, hsplit, ditherVisits_append, ← State.dithered, get_ditherVisits_row]
  intro v hv
  obtain ⟨op, hmem, he⟩ := List.mem_filterMap.mp hv
  cases op with
  | visit y' x =>
    cases he
    exact .inl (hlater y' x hmem)
  | _ => simp [MicroOp.visitOf] at he

/-- At LOAD(t, i) the dense array has row `t` as the image gives it: no VISIT has written it (42 R173). -/
theorem dithered_row_at_load {s : State} {t i : Nat} (words : List Word)
    (hop : s.prog[s.seq]? = some (.load t i)) (col : Nat) :
    Image.get (s.dithered words s.seq) t col = Image.get (s.image words) t col := by
  rw [State.dithered, get_ditherVisits_row]
  intro v hv
  obtain ⟨op, hmem, he⟩ := List.mem_filterMap.mp hv
  cases op with
  | visit y x =>
    cases he
    exact .inr (visit_mem_take_load hop hmem)
  | _ => simp [MicroOp.visitOf] at he

/-- Pixel `4i + k` of row `t` is lane `k` of the job's word `t·(JW/4) + i` (30 R85, 40 R118). -/
theorem get_image {s : State} {t i k : Nat} (words : List Word) (h8 : s.jw.toNat % 8 = 0) (ht : t < s.jh.toNat)
    (hi : i < s.jw.toNat / 4) (hk : k < 4) : Image.get (s.image words) t (4 * i + k) =
      pixelOfWord (words.getD (t * (s.jw.toNat / 4) + i) 0#32) k := by
  obtain ⟨q, hq⟩ : ∃ q, s.jw.toNat = 4 * q := ⟨s.jw.toNat / 4, by omega⟩
  have hpos : t * s.jw.toNat + (4 * i + k) = 4 * (t * (s.jw.toNat / 4) + i) + k := by
    rw [hq, Nat.mul_div_cancel_left q (by decide)]
    ring
  rw [State.image, imageOfWords, Image.get_ofPixels ht (by omega), hpos, Nat.mul_add_div (by decide),
    Nat.div_eq_of_lt hk, Nat.mul_add_mod, Nat.mod_eq_of_lt hk, Nat.add_zero]

/-! ### The engine makes the stream -/

/-- What holds of a running job whose words are `words` and whose stream bytes `done` the host has read. -/
structure Streams (words : List Word) (done : List Byte) (s : State) : Prop where
  legal : s.params.legal
  running : s.jobState = .run
  run : s.RunInv
  /-- INQ holds the job's next words. -/
  input : s.inq <+: words.drop s.loadsDone
  /-- What is read and queued is what the program's micro-ops so far have to push. -/
  output : done ++ s.outq.map OutEntry.byte = (s.prog.take s.seq).filterMap (s.opByte words)
  /-- A pixel that is loaded, and whose slot no later row has taken, is in its cell. -/
  cells : ∀ t col, col < s.jw.toNat → MicroOp.load t (col / 4) ∈ s.prog.take s.seq →
    MicroOp.load (t + 3) (col / 4) ∉ s.prog.take s.seq →
    s.rowbuf.read (rowCellAddr t col) = some (cellOfInt (Image.get (s.dithered words s.seq) t col))

section Engine
variable {s : State} {op : MicroOp} {words : List Word} {done : List Byte} (h : Streams words done s)
include h

theorem Streams.width_le : s.jw.toNat ≤ 65528 := by
  obtain ⟨-, -, hmax, -⟩ := h.legal
  exact h.run.widthFits.trans hmax

/-- HDR and PACK, where the pushed byte is the stream's. -/
theorem Streams.produce (hop : s.prog[s.seq]? = some op) (hl : op.isLoad = false) (hv : op.visitOf = none)
    {b : Byte} (hb : s.opByte words op = some b) : Streams words done (s.produce b).advance where
  legal := h.legal
  running := h.running
  run := h.run.produce hop hl b
  input := by
    rw [loadsDone_next (t := (s.produce b).advance) hop rfl rfl, hl]
    exact h.input
  output := by
    have hnext := opBytes_next words hop
    rw [hb] at hnext
    show done ++ (s.outq ++ [_]).map OutEntry.byte = (s.prog.take (s.seq + 1)).filterMap (s.opByte words)
    rw [hnext, ← h.output, List.map_append, List.append_assoc]
    rfl
  cells := by
    have hmem (t i : Nat) : MicroOp.load t i ∈ s.prog.take (s.seq + 1) ↔ MicroOp.load t i ∈ s.prog.take s.seq := by
      rw [mem_take_seq_next hop, or_iff_left]
      rintro rfl
      simp [MicroOp.isLoad] at hl
    intro t col hcol hload hnot
    show s.rowbuf.read (rowCellAddr t col) = some (cellOfInt (Image.get (s.dithered words (s.seq + 1)) t col))
    rw [dithered_next_of_none words hop hv]
    exact h.cells t col hcol ((hmem t _).mp hload) fun hm => hnot ((hmem _ _).mpr hm)

/-- The pixels that PACK(y, b) reads are those of the whole dither. -/
theorem Streams.read_pack {y b i : Nat} (hop : s.prog[s.seq]? = some (.pack y b)) (hi : i < 8) :
    s.rowbuf.readCell s.params.wMax y (8 * b + i) =
      .ok (Image.get (dither (s.image words) s.jw.toNat s.jh.toNat s.jwrap) y (8 * b + i)) := by
  obtain ⟨hy, hb⟩ := pack_mem_jobProg (List.mem_of_getElem? hop)
  obtain ⟨hloads, -⟩ := take_drop_pack hop
  have hfits := h.run.widthFits
  have h8 := h.run.widthMul8
  rw [dithered_row_at_pack words hop]
  refine readCell_of_range (by omega) (h.cells y _ (by omega) ((hloads _ _).mpr ⟨by omega, hy, by omega⟩) ?_)
    ((withinShares_dithered s words s.seq).range (weight_le s s.seq y _))
  intro hm
  obtain ⟨-, -, hlt⟩ := (hloads _ _).mp hm
  omega

theorem Streams.pack {y b : Nat} (hop : s.prog[s.seq]? = some (.pack y b)) :
    ∃ t, microOp (.pack y b) s = .ok t ∧ Streams words done t :=
  ⟨_, microOp_pack (packByte_of_reads _ fun _ hi => h.read_pack hop hi), h.produce hop rfl rfl rfl⟩

theorem Streams.visit {y x : Nat} (hop : s.prog[s.seq]? = some (.visit y x)) :
    ∃ t, microOp (.visit y x) s = .ok t ∧ Streams words done t := by
  obtain ⟨hx, hy⟩ := visit_mem_jobProg (List.mem_of_getElem? hop)
  have h8 := h.run.widthMul8
  have hwidth := h.width_le
  have hloads {t i : Nat} := load_mem_take_visit (t := t) (i := i) hop
  have hrows : RowsAgree s.rowbuf (s.dithered words s.seq) s.jw.toNat y := fun t col hlo hhi hcol =>
    h.cells t col hcol (hloads.mpr ⟨by omega, by omega⟩) fun hm => by
      obtain ⟨-, hlt⟩ := hloads.mp hm
      omega
  obtain ⟨m, hm, hagree⟩ := visitCells_refines (wrap := s.jwrap) h.run.widthFits (by omega) (by omega) hy hrows
    (hasSize_dithered s words s.seq) (withinShares_dithered s words s.seq)
    (fun t col => (weight_next_of_visit hop rfl t col).symm.trans_le (weight_le s _ t col)) (weight_le s _ y x)
  refine ⟨_, microOp_visit hm, ?_⟩
  exact
    { legal := h.legal
      running := h.running
      run := h.run.writeCells hop rfl (inq := s.inq) rfl (visitCells_cellWrites hm) (by simp)
      input := by
        rw [loadsDone_next (t := ({ s with rowbuf := m } : State).advance) hop rfl rfl]
        exact h.input
      output := (h.output.trans (List.append_nil _).symm).trans (opBytes_next words hop).symm
      cells := fun t col (hcol : col < s.jw.toNat) hload hnot => by
        have hdone : MicroOp.load t (col / 4) ∈ s.prog.take s.seq := by
          simpa using (mem_take_seq_next hop).mp hload
        obtain ⟨-, hhi⟩ := hloads.mp hdone
        have hlo : y ≤ t := by
          by_contra hlt
          exact hnot ((mem_take_seq_next hop).mpr (.inl (hloads.mpr ⟨by omega, by omega⟩)))
        show m.read (rowCellAddr t col) = some (cellOfInt (Image.get (s.dithered words (s.seq + 1)) t col))
        rw [dithered_next_of_visit words hop rfl]
        exact hagree t col hlo (by omega) hcol }

/-- LOAD(t, i) does not touch the cell of another pixel that stays resident. -/
theorem Streams.load_other {r i t col k : Nat} (hop : s.prog[s.seq]? = some (.load r i)) (hcol : col < s.jw.toNat)
    (hk : k < 4) (hload : MicroOp.load t (col / 4) ∈ s.prog.take s.seq)
    (hnot : MicroOp.load (t + 3) (col / 4) ∉ s.prog.take (s.seq + 1)) :
    rowCellAddr t col ≠ rowCellAddr r (4 * i + k) := by
  obtain ⟨-, hi⟩ := load_mem_jobProg (List.mem_of_getElem? hop)
  have hwidth := h.width_le
  intro haddr
  rw [rowCellAddr_inj (by omega) (by omega)] at haddr
  obtain ⟨hslot, rfl⟩ := haddr
  have hword : (4 * i + k) / 4 = i := by omega
  rw [hword] at hload hnot
  rw [mem_take_seq_next hop, not_or] at hnot
  obtain ⟨hnot, hne⟩ := hnot
  have hearlier {t' : Nat} : MicroOp.load t' i ∈ s.prog.take s.seq ↔ t' < r := by
    rw [State.prog, load_mem_take_load hop hi, Nat.add_lt_add_iff_right, Nat.mul_lt_mul_right (by omega)]
  rw [hearlier] at hload hnot
  have hrow : t + 3 ≠ r := by simpa using hne
  omega

theorem Streams.load {r i : Nat} (hop : s.prog[s.seq]? = some (.load r i)) (hg : s.inq ≠ []) :
    ∃ t, microOp (.load r i) s = .ok t ∧ Streams words done t := by
  obtain ⟨hr, hi⟩ := load_mem_jobProg (List.mem_of_getElem? hop)
  have h8 := h.run.widthMul8
  have hfits := h.run.widthFits
  obtain ⟨w, rest, hq⟩ := List.exists_cons_of_ne_nil hg
  obtain ⟨m, hm, hpix, hother⟩ := loadCells_read (t := r) w s.rowbuf (show 4 * i + 3 < s.params.wMax by omega)
  obtain ⟨later, hlater⟩ := h.input
  rw [hq, List.cons_append] at hlater
  have hword : words.getD (r * (s.jw.toNat / 4) + i) 0#32 = w := by
    rw [← length_loads_of_load hop]
    have hget := congrArg (·[0]?) hlater
    simp only [List.getElem?_cons_zero, List.getElem?_drop, Nat.add_zero] at hget
    exact (List.getD_eq_getElem?_getD ..).trans (by rw [State.loadsDone, State.prog] at hget; rw [← hget]; rfl)
  refine ⟨_, microOp_load hq hm, ?_⟩
  exact
    { legal := h.legal
      running := h.running
      run := h.run.writeCells hop rfl (by rw [hq]; rfl) (loadCells_cellWrites hm) fun r' i' he k hk => by
        cases he
        rw [hpix k hk]
        rfl
      input := by
        rw [loadsDone_next (t := ({ s with inq := rest, rowbuf := m } : State).advance) hop rfl rfl]
        refine ⟨later, ?_⟩
        have htail := congrArg List.tail hlater
        rwa [List.tail_cons, List.tail_drop] at htail
      output := (h.output.trans (List.append_nil _).symm).trans (opBytes_next words hop).symm
      cells := fun t col hcol hload hnot => by
        show m.read (rowCellAddr t col) = some (cellOfInt (Image.get (s.dithered words (s.seq + 1)) t col))
        rw [dithered_next_of_none words hop rfl]
        obtain hload | hnew := (mem_take_seq_next hop).mp hload
        · rw [hother _ fun k hk => h.load_other hop hcol hk hload hnot]
          exact h.cells t col hcol hload fun hm => hnot ((mem_take_seq_next hop).mpr (.inl hm))
        · cases hnew
          have hcol4 : 4 * (col / 4) + col % 4 = col := Nat.div_add_mod col 4
          have hk : col % 4 < 4 := Nat.mod_lt _ (by decide)
          rw [dithered_row_at_load words hop, ← hcol4, get_image words h8 hr hi hk, hword, hpix _ hk] }

/-- Every enabled micro-op answers, and keeps the job on its stream. -/
theorem Streams.microOp (hop : s.prog[s.seq]? = some op) (hg : guard op s = true) :
    ∃ t, microOp op s = .ok t ∧ Streams words done t := by
  cases op with
  | hdr k => exact ⟨_, rfl, h.produce hop rfl rfl rfl⟩
  | load r i => exact h.load hop (by simpa [guard] using hg)
  | visit y x => exact h.visit hop
  | pack y b => exact h.pack hop

end Engine

/-- A job at its start, the words to come and the words queued making up the job's count. -/
theorem runInv_at_start {s : State} (h8 : s.jw.toNat % 8 = 0) (hfits : s.jw.toNat ≤ s.params.wMax)
    (hh : s.jh.toNat ≤ 65535) (hseq : s.seq = 0) (hp : s.produced = false) (hout : s.outq = [])
    (hcount : s.inRemain.toNat + s.inq.length = s.jw.toNat * s.jh.toNat / 4) : s.RunInv := by
  have hlen : 8 ≤ s.prog.length := eight_le_length_jobProg _ _
  exact
    { widthMul8 := h8
      widthFits := hfits
      heightFits := hh
      seqBound := by omega
      wordCount := by simpa [State.loadsDone, hseq] using hcount
      producedAtEnd := by simp only [hp, hseq, Bool.false_eq_true, false_iff]; omega
      tags := by simp [hout]
      outAtEnd := by omega
      loaded := by simp [hseq] }

theorem streams_at_start {s : State} {words : List Word} (hlegal : s.params.legal) (hj : s.jobState = .run)
    (hrun : s.RunInv) (hseq : s.seq = 0) (hout : s.outq = []) (hinput : s.inq <+: words) :
    Streams words [] s where
  legal := hlegal
  running := hj
  run := hrun
  input := by simpa [State.loadsDone, hseq] using hinput
  output := by simp [hseq, hout]
  cells := by simp [hseq]

theorem length_jobStream (s : State) (words : List Word) :
    (s.jobStream words).length = 8 + s.jw.toNat / 8 * s.jh.toNat :=
  (streamBytesHoldTheirPixels ..).2.1

/-- The bytes read and queued are a beginning of the stream. -/
theorem Streams.output_prefix {s : State} {words : List Word} {done : List Byte} (h : Streams words done s) :
    done ++ s.outq.map OutEntry.byte <+: s.jobStream words := by
  rw [h.output, ← filterMap_opByte_prog]
  exact (List.take_prefix _ _).filterMap _

theorem Streams.output_at_end {s : State} {words : List Word} {done : List Byte} (h : Streams words done s)
    (hend : s.seq = s.prog.length) : done ++ s.outq.map OutEntry.byte = s.jobStream words := by
  rw [h.output, hend, List.take_length, filterMap_opByte_prog]

/-- While a push is still to come, what is read and queued is not yet the whole stream. -/
theorem Streams.output_length_lt {s : State} {words : List Word} {done : List Byte} (h : Streams words done s)
    {op : MicroOp} {b : Byte} (hop : s.prog[s.seq]? = some op) (hb : s.opByte words op = some b) :
    done.length + s.outq.length < 8 + s.jw.toNat / 8 * s.jh.toNat := by
  have hnext := ((List.take_prefix (s.seq + 1) s.prog).filterMap (s.opByte words)).length_le
  rw [filterMap_opByte_prog, length_jobStream, opBytes_next words hop, ← h.output, hb] at hnext
  simp only [List.length_append, List.length_map, Option.toList_some, List.length_singleton] at hnext
  omega

/-! ### An engine with all the words and room for all the bytes -/

/-- `s` with another word count to come; the engine does not look at it. -/
def State.withRemain (s : State) (r : Word) : State := { s with inRemain := r }

theorem microOp_withRemain (op : MicroOp) (s : State) (r : Word) :
    microOp op (s.withRemain r) = (microOp op s).map (·.withRemain r) := by
  cases op with
  | hdr k => rfl
  | load t i =>
    simp only [microOp, microLoad, State.withRemain]
    split
    · rfl
    · split <;> rfl
  | visit y x =>
    simp only [microOp, microVisit, State.withRemain]
    split <;> rfl
  | pack y b =>
    simp only [microOp, microPack, State.withRemain]
    split <;> rfl

/-- A job that has all its words and room for all its bytes, and whose steps are the engine's. Its words are all
queued, so it is looked at with no word to come. -/
structure Fed (words : List Word) (s : State) : Prop where
  streams : Streams words [] (s.withRemain 0#32)
  noEvents : s.events = []
  room : 8 + s.jw.toNat / 8 * s.jh.toNat ≤ s.params.outDepth

theorem step_of_noEvents {s : State} (h : s.events = []) : step s = engineTurn s := by
  simp [step, h]

/-- A run whose first step answers goes on from there. -/
theorem run_succ {s u : State} (h : step s = .next u) (k : Nat) :
    Sys2Proof.core.run (k + 1) s = Sys2Proof.core.run k u := by
  have hstep : Sys2Proof.core.step s = .next u := h
  simp only [Host.Core.run, hstep]

section Fed
variable {words : List Word} {s : State} (h : Fed words s)
include h

/-- Its engine never waits. -/
theorem Fed.guard {op : MicroOp} (hop : s.prog[s.seq]? = some op) : guard op s = true := by
  have hpush (b : Byte) (hb : s.opByte words op = some b) : s.outq.length < s.params.outDepth := by
    have hlt := h.streams.output_length_lt hop hb
    rw [List.length_nil, Nat.zero_add] at hlt
    exact hlt.trans_le h.room
  cases op with
  | hdr k => simpa [Machine.guard] using hpush _ rfl
  | pack y b => simpa [Machine.guard] using hpush _ rfl
  | load t i =>
    have hq : s.inq ≠ [] := fun hq => inRemain_ne_zero h.streams.run hop hq rfl
    simpa [Machine.guard] using hq
  | visit y x => rfl

theorem Fed.step (hs : s.seq < s.prog.length) : ∃ t, step s = .next t ∧ Fed words t ∧
    t.seq = s.seq + 1 ∧ t.prog = s.prog ∧ t.jobStream words = s.jobStream words := by
  have hop : s.prog[s.seq]? = some s.prog[s.seq] := List.getElem?_eq_getElem hs
  have hg := h.guard hop
  obtain ⟨u, hu, hstreams⟩ := h.streams.microOp hop hg
  rw [microOp_withRemain] at hu
  cases ho : microOp s.prog[s.seq] s with
  | error f => simp [ho, Except.map] at hu
  | ok t =>
    obtain rfl : t.withRemain 0#32 = u := by simpa [ho, Except.map] using hu
    have hj : s.jobState = .run := h.streams.running
    have hturn := engineTurn_of_enabled (currentOp_eq_some.mpr ⟨hj, hop⟩) hg ho
    have hframe := engineTurn_frame hturn
    have hfed : Fed words t :=
      { streams := hstreams
        noEvents := (congrArg State.events hframe).trans h.noEvents
        room := by rw [hframe]; exact h.room }
    exact ⟨t, (step_of_noEvents h.noEvents).trans hturn, hfed, microOp_seq hg ho, (congrArg State.prog hframe :),
      (congrArg (fun u => u.jobStream words) hframe :)⟩

theorem Fed.run (k : Nat) (hk : s.seq + k ≤ s.prog.length) : ∃ t, Sys2Proof.core.run k s = .next t ∧ Fed words t ∧
    t.seq = s.seq + k ∧ t.prog = s.prog ∧ t.jobStream words = s.jobStream words := by
  induction k generalizing s with
  | zero => exact ⟨s, rfl, h, rfl, rfl, rfl⟩
  | succ k ih =>
    obtain ⟨u, hstep, hu, hseq, hprog, hstream⟩ := h.step (by omega)
    obtain ⟨t, hrun, ht, hseq', hprog', hstream'⟩ := ih hu (by rw [hseq, hprog]; omega)
    exact ⟨t, (run_succ hstep k).trans hrun, ht, by omega, hprog'.trans hprog, hstream'.trans hstream⟩

end Fed

/-- At the end of the program the entries of OUTQ are untagged but for the last. -/
theorem map_last_at_end {s : State} (h : s.RunInv) (hend : s.seq = s.prog.length) :
    s.outq.map OutEntry.last = List.replicate (s.outq.length - 1) false ++ [true] := by
  obtain ⟨init, e, hq⟩ := (List.eq_nil_or_concat' s.outq).resolve_left (h.outAtEnd hend)
  have hlast : e.last = true := (h.tags init e [] hq).mpr ⟨rfl, hend⟩
  have hinit : init.map OutEntry.last = List.replicate init.length false := by
    rw [List.eq_replicate_iff, List.length_map]
    refine ⟨rfl, fun l hl => ?_⟩
    obtain ⟨e', he', rfl⟩ := List.mem_map.mp hl
    obtain ⟨pre, post, rfl⟩ := List.append_of_mem he'
    have htag := h.tags pre e' (post ++ [e]) (by rw [hq, List.append_assoc, List.cons_append])
    simpa using htag
  rw [hq, List.map_append, hinit, List.length_append]
  simp [hlast]

/-- Settles O50: the engine never waits, and at the end of its program it has pushed every byte of the stream. -/
theorem engineRunPushesTheStream : Obligations.EngineRunPushesTheStream := by
  intro s words hlegal hj h8 hfits hh hseq hp hm hout hev hq hlen hroom
  have hrun : (s.withRemain 0#32).RunInv := runInv_at_start h8 hfits hh hseq hp hout (by
    show 0 + s.inq.length = _
    rw [hq, hlen, Nat.zero_add]
    rfl)
  have hfed : Fed words s :=
    { streams := streams_at_start hlegal hj hrun hseq hout (hq ▸ List.prefix_rfl)
      noEvents := hev
      room := hroom }
  obtain ⟨t, ht, hfed', hend, hprog, hstream⟩ := hfed.run s.prog.length (by omega)
  have hend' : t.seq = t.prog.length := by rw [hend, hprog, hseq, Nat.zero_add]
  have hbytes : t.outq.map OutEntry.byte = s.jobStream words :=
    (hfed'.streams.output_at_end hend').trans hstream
  have hcount : t.outq.length = 8 + s.jw.toNat / 8 * s.jh.toNat := by
    rw [← length_jobStream s words, ← hbytes, List.length_map]
  refine ⟨t, ht, hbytes, ?_, hfed'.streams.run.producedAtEnd.mpr hend', hfed'.streams.running,
    (hfed'.streams.run.no_input_at_end hend').2⟩
  have htags : t.outq.map OutEntry.last = _ := map_last_at_end (s := t.withRemain 0#32) hfed'.streams.run hend'
  rw [htags]
  congr 2
  show t.outq.length - 1 = _
  omega

end Sys2Proof.Machine

/-! A host that feeds a running job and reads its bytes, in any interleaving with the engine: what each of its
accesses does, and from it O51. -/

namespace Sys2Proof.Machine

/-! ### What the host has read -/

theorem delivered_concat (tr : List Obs) (o : Obs) :
    delivered (tr ++ [o]) = delivered tr ++ o.streamByte.toList := by
  rw [delivered, delivered, List.filterMap_append]
  cases ho : o.streamByte <;> simp [ho]

/-- An access that delivers no byte. -/
theorem delivered_observe {sel : BitVec 7} {rep : Reply} (ho : ∀ irq, Obs.streamByte ⟨sel, rep, irq⟩ = none)
    (s : State) : delivered (s.observe sel rep).trace = delivered s.trace := by
  rw [State.observe_trace, delivered_concat, ho]
  exact List.append_nil _

theorem streamByte_ack (sel : BitVec 7) (irq : Bool) : Obs.streamByte ⟨sel, .ack, irq⟩ = none := rfl

/-- The read of a queued entry delivers its byte (30 R86). -/
theorem streamByte_outDataWord (e : OutEntry) (irq : Bool) :
    Obs.streamByte ⟨0x24#7, .data (outDataWord e), irq⟩ = some e.byte := by
  have hword := toNat_outDataWord e
  have hbyte := e.byte.isLt
  have hvalid : (outDataWord e).getLsbD 8 = true := getLsbD_of_div_mod (by
    rw [hword]
    show _ = 1
    split <;> omega)
  have hextract : (outDataWord e).extractLsb' 0 8 = e.byte := BitVec.eq_of_toNat_eq (by
    rw [BitVec.extractLsb'_toNat, hword, Nat.shiftRight_zero]
    split <;> omega)
  rw [Obs.streamByte]
  simp only [hvalid, hextract, and_self, if_true]

/-! ### What a streaming event does -/

/-- What a step can do to `s`, from which the event is taken, when the event offers the word `offer`, if any, to
IN_DATA and is streaming. -/
inductive StreamStep (s : State) : Option Word → State → Prop where
  | engine (t : State) (h : engineTurn s = .next t) : StreamStep s none t
  /-- A register is read, or at most CONFIG, WIDTH, HEIGHT or IRQ_EN is written. -/
  | registers (r : State) (sel : BitVec 7) (rep : Reply) (ho : ∀ irq, Obs.streamByte ⟨sel, rep, irq⟩ = none) :
      StreamStep s none ((s.withHostRegs r).observe sel rep)
  | write (v : Word) : StreamStep s (some v) ((acceptInData v s).observe 0x60#7 .ack)
  | pop (e : OutEntry) (rest : List OutEntry) (hq : s.outq = e :: rest) :
      StreamStep s none ((s.popOut e rest).observe 0x24#7 (.data (outDataWord e)))

/-- A write to a slot other than CMD and IN_DATA touches the host's registers alone. -/
theorem instrEffect_decodeWrite {k : Nat} (hk : k < 16) (hcmd : k ≠ 1) (hdata : k ≠ 8) (v : Word) (s : State) :
    instrEffect (decodeWrite (BitVec.ofNat 4 k) v) s =
      s.withHostRegs (instrEffect (decodeWrite (BitVec.ofNat 4 k) v) s) := by
  have hslots : k = 0 ∨ (2 ≤ k ∧ k < 8) ∨ (9 ≤ k ∧ k < 16) := by omega
  obtain rfl | ⟨hlo, hhi⟩ | ⟨hlo, hhi⟩ := hslots
  · rfl
  · interval_cases k
    all_goals rfl
  · interval_cases k
    all_goals rfl

/-- The read of a slot other than OUT_DATA has no effect. -/
theorem instrEffect_decodeRead {k : Nat} (hk : k < 16) (hout : k ≠ 9) (s : State) :
    instrEffect (decodeRead (BitVec.ofNat 4 k)) s = s := by
  have hslots : k < 9 ∨ (10 ≤ k ∧ k < 16) := by omega
  obtain hlt | ⟨hlo, hhi⟩ := hslots
  · interval_cases k
    all_goals rfl
  · interval_cases k
    all_goals rfl

theorem streamStep_write {k : Nat} (hk : k < 16) (hcmd : k ≠ 1) (v : Word) {s t : State}
    (h : exec (decodeWrite (BitVec.ofNat 4 k) v) s = .next t) :
    StreamStep s (if k = 8 then some v else none) t := by
  rw [exec_decodeWrite hk] at h
  cases h
  by_cases hdata : k = 8
  · subst hdata
    exact .write v
  · rw [if_neg hdata, instrEffect_decodeWrite hk hcmd hdata]
    exact .registers _ _ _ (streamByte_ack _)

theorem streamStep_read {k : Nat} (hk : k < 16) {s t : State}
    (h : exec (decodeRead (BitVec.ofNat 4 k)) s = .next t) : StreamStep s none t := by
  by_cases hout : k = 9
  · subst hout
    change execRdOutData s = .next t at h
    cases hq : s.outq with
    | nil =>
      rw [execRdOutData_nil hq] at h
      cases h
      exact .registers s _ _ fun _ => rfl
    | cons e rest =>
      rw [execRdOutData_cons hq] at h
      cases h
      exact .pop e rest hq
  · obtain ⟨w, hx⟩ := exec_decodeRead hk s
    rw [hx, instrEffect_decodeRead hk hout] at h
    cases h
    have hsel : BitVec.ofNat 7 (4 * k) ≠ 0x24#7 := fun hsel => by
      have hoff : 4 * k % 2 ^ 7 = 0x24 := congrArg BitVec.toNat hsel
      omega
    exact .registers s _ _ fun _ => by simp [Obs.streamByte, hsel]

/-- A step on a streaming event (40 R125). -/
theorem step_streaming {s t : State} {e : Event} {rest : List Event} (hev : s.events = e :: rest)
    (he : isStreaming s.params e) (h : step s = .next t) :
    StreamStep { s with events := rest } (e.inWord s.params) t := by
  obtain rfl | ⟨we, off, d, hoff, hal, hcmd, rfl⟩ := he
  · exact .engine t (by simpa [step, hev] using h)
  · obtain ⟨k, rfl⟩ := Nat.dvd_of_mod_eq_zero hal
    have hk : k < 16 := by omega
    rw [step_wordAccess hev rfl (Nat.le_add_right ..) (by simpa using hoff), Nat.add_sub_cancel_left,
      decodeSelector_slot we hk] at h
    cases we with
    | false => exact streamStep_read hk h
    | true =>
      have hword : (Event.host (.access ⟨true, s.params.base + 4 * k, 4, d⟩)).inWord s.params =
          if k = 8 then some d else none := by
        have haddr : s.params.base + 4 * k = s.params.base + 0x20 ↔ k = 8 := by omega
        simp only [Event.inWord, haddr, true_and]
      rw [hword]
      exact streamStep_write hk (by simpa using hcmd) d h

/-! ### The host's effects on a running job -/

section Host
variable {s : State} (h : s.RunInv)
include h

theorem State.RunInv.acceptWord (v : Word) (hr : s.inRemain ≠ 0#32) :
    ({ s.inPush v with inRemain := s.inRemain - 1#32 } : State).RunInv := by
  have hcount : (s.inRemain - 1#32).toNat + s.loadsDone + (s.inq ++ [v]).length =
      s.jw.toNat * s.jh.toNat / 4 := by
    have hsub : (s.inRemain - 1#32).toNat + 1 = s.inRemain.toNat := by bv_omega
    have hold := h.wordCount
    rw [List.length_append, List.length_singleton]
    omega
  exact { h with wordCount := hcount }

theorem State.RunInv.popByte {e : OutEntry} {rest : List OutEntry} (hq : s.outq = e :: rest)
    (he : e.last = false) : ({ s with outq := rest } : State).RunInv := by
  have htags : ∀ pre e' post, rest = pre ++ e' :: post →
      (e'.last = true ↔ post = [] ∧ s.seq = s.prog.length) :=
    fun pre e' post hrest => h.tags (e :: pre) e' post (by rw [hq, hrest, List.cons_append])
  have hend : s.seq = s.prog.length → rest ≠ [] := fun hs hrest => by
    simpa [he, hrest, hs] using h.tags [] e rest hq
  exact { h with tags := htags, outAtEnd := hend }

end Host

/-- `s` with the host's own registers, events and record taken from `r`. -/
def State.withHostView (s r : State) : State := { s.withHostRegs r with events := r.events, trace := r.trace }

section Host
variable {words : List Word} {done : List Byte} {s t : State} (h : Streams words done s)
include h

/-- The stream does not depend on the host's own registers (10 R44). -/
theorem Streams.congr (ht : t = s.withHostView t) : Streams words done t := by
  rw [ht]
  exact ⟨h.legal, h.running, h.run.withOutside (s.withHostView t), h.input, h.output, h.cells⟩

theorem Streams.acceptWord {v : Word} (hr : s.inRemain ≠ 0#32) (hinput : s.inq ++ [v] <+: words.drop s.loadsDone) :
    Streams words done { s.inPush v with inRemain := s.inRemain - 1#32 } :=
  ⟨h.legal, h.running, h.run.acceptWord v hr, hinput, h.output, h.cells⟩

theorem Streams.popByte {e : OutEntry} {rest : List OutEntry} (hq : s.outq = e :: rest) (he : e.last = false) :
    Streams words (done ++ [e.byte]) { s with outq := rest } := by
  have hout := h.output
  rw [hq, List.map_cons, List.append_cons] at hout
  exact ⟨h.legal, h.running, h.run.popByte hq he, h.input, hout, h.cells⟩

end Host

/-! ### Delivering the stream -/

/-- Where a job on `words` can be when its stream is `σ` and the host issues no command. -/
inductive Delivering (words : List Word) (σ : List Byte) (s : State) : Prop where
  | running (hs : Streams words (delivered s.trace) s) (hσ : s.jobStream words = σ)
      (hpending : s.events.filterMap (Event.inWord s.params) <+: words.drop (s.loadsDone + s.inq.length))
  | finished (hj : s.jobState = .done) (hq : s.outq = []) (hσ : delivered s.trace = σ)
  | overrun (hj : s.jobState = .error) (hq : s.outq = [])

/-- A streaming event changes neither the events to come nor the parameters. -/
theorem StreamStep.events_params {s t : State} {offer : Option Word} (h : StreamStep s offer t) :
    t.events = s.events ∧ t.params = s.params := by
  cases h with
  | engine t h =>
    have hframe := engineTurn_frame h
    exact ⟨(congrArg State.events hframe :), (congrArg State.params hframe :)⟩
  | registers => exact ⟨rfl, rfl⟩
  | write v => exact ⟨instrEffect_events (.wrInData v) s, acceptInData_params v s⟩
  | pop => simp

/-- Out of RUN, with nothing queued, a streaming event delivers nothing. -/
theorem StreamStep.stopped {s t : State} {offer : Option Word} (h : StreamStep s offer t)
    (hj : s.jobState ≠ .run) (hq : s.outq = []) :
    t.jobState = s.jobState ∧ t.outq = [] ∧ delivered t.trace = delivered s.trace := by
  cases h with
  | engine t h =>
    obtain ⟨rfl, -⟩ | ⟨op, hc, -, -⟩ := engineTurn_next h
    · exact ⟨rfl, hq, rfl⟩
    · simp [currentOp_of_not_run hj] at hc
  | registers r sel rep ho =>
    exact ⟨rfl, hq, delivered_observe ho _⟩
  | write v =>
    have hsame : acceptInData v s = s := if_pos hj
    rw [hsame]
    exact ⟨rfl, hq, delivered_observe (streamByte_ack _) _⟩
  | pop e rest hq' => simp [hq] at hq'

section Running
variable {words : List Word} {σ : List Byte} {s t : State} (hs : Streams words (delivered s.trace) s)
  (hσ : s.jobStream words = σ)
include hs hσ

theorem Delivering.engine (hpending : s.events.filterMap (Event.inWord s.params) <+:
    words.drop (s.loadsDone + s.inq.length)) (h : engineTurn s = .next t) : Delivering words σ t := by
  obtain ⟨rfl, -⟩ | ⟨op, hc, hg, ho⟩ := engineTurn_next h
  · exact .running hs hσ hpending
  · obtain ⟨-, hop⟩ := currentOp_eq_some.mp hc
    obtain ⟨u, hu, hstreams⟩ := hs.microOp hop hg
    obtain rfl : u = t := by simpa [ho] using hu.symm
    have hframe := engineTurn_frame h
    have hcount : u.loadsDone + u.inq.length = s.loadsDone + s.inq.length := by
      have hafter := hstreams.run.wordCount
      have hbefore := hs.run.wordCount
      have hremain : u.inRemain = s.inRemain := (congrArg State.inRemain hframe :)
      have hwidth : u.jw = s.jw := (congrArg State.jw hframe :)
      have hheight : u.jh = s.jh := (congrArg State.jh hframe :)
      rw [hremain, hwidth, hheight] at hafter
      omega
    have htrace : u.trace = s.trace := (congrArg State.trace hframe :)
    have hevents : u.events = s.events := (congrArg State.events hframe :)
    have hparams : u.params = s.params := (congrArg State.params hframe :)
    refine .running (by rwa [htrace]) ((congrArg (·.jobStream words) hframe :).trans hσ) ?_
    rwa [hevents, hparams, hcount]

theorem Delivering.registers (hpending : s.events.filterMap (Event.inWord s.params) <+:
    words.drop (s.loadsDone + s.inq.length)) (r : State) {sel : BitVec 7} {rep : Reply}
    (ho : ∀ irq, Obs.streamByte ⟨sel, rep, irq⟩ = none) :
    Delivering words σ ((s.withHostRegs r).observe sel rep) := by
  refine .running ?_ hσ hpending
  rw [delivered_observe ho]
  exact hs.congr rfl

theorem Delivering.write {v : Word} (hpending : v :: s.events.filterMap (Event.inWord s.params) <+:
    words.drop (s.loadsDone + s.inq.length)) :
    Delivering words σ ((acceptInData v s).observe 0x60#7 .ack) := by
  obtain ⟨hj, -⟩ | ⟨-, -, h⟩ | ⟨-, hr, -, h⟩ := acceptInData_cases v s
  · exact absurd hs.running hj
  · rw [h]
    exact .overrun rfl rfl
  · obtain ⟨later, hlater⟩ := hpending
    rw [List.cons_append] at hlater
    have hinput : s.inq ++ [v] <+: words.drop s.loadsDone := by
      obtain ⟨more, hmore⟩ := hs.input
      refine ⟨s.events.filterMap (Event.inWord s.params) ++ later, ?_⟩
      have hrest : more = v :: (s.events.filterMap (Event.inWord s.params) ++ later) := by
        rw [hlater, ← List.drop_drop, ← hmore, List.drop_left]
      rw [← hmore, hrest, List.append_assoc, List.singleton_append]
    rw [h]
    refine .running ?_ hσ ⟨later, ?_⟩
    · rw [delivered_observe (streamByte_ack _)]
      exact (hs.acceptWord hr hinput).congr rfl
    · have htail := congrArg List.tail hlater
      rw [List.tail_cons, List.tail_drop] at htail
      rw [State.observe_inq]
      show _ = words.drop (s.loadsDone + (s.inq ++ [v]).length)
      rw [List.length_append, List.length_singleton, ← Nat.add_assoc]
      exact htail

theorem Delivering.pop (hpending : s.events.filterMap (Event.inWord s.params) <+:
    words.drop (s.loadsDone + s.inq.length)) {e : OutEntry} {rest : List OutEntry} (hq : s.outq = e :: rest) :
    Delivering words σ ((s.popOut e rest).observe 0x24#7 (.data (outDataWord e))) := by
  have hdone : delivered ((s.popOut e rest).observe 0x24#7 (.data (outDataWord e))).trace =
      delivered s.trace ++ [e.byte] := by
    rw [State.observe_trace, delivered_concat, streamByte_outDataWord, State.popOut_trace]
    rfl
  cases he : e.last with
  | true =>
    obtain ⟨hrest, hend⟩ := (hs.run.tags [] e rest hq).mp he
    have hall := hs.output_at_end hend
    rw [hq, hrest] at hall
    refine .finished ?_ ?_ (hdone.trans (hall.trans hσ))
    · simp [State.popOut_jobState, he]
    · simp [hrest]
  | false =>
    have hpop : s.popOut e rest = { s with outq := rest } := by simp [State.popOut, he]
    rw [hpop] at hdone ⊢
    refine .running ?_ hσ hpending
    rw [hdone]
    exact (hs.popByte hq he).congr rfl

end Running

/-- A streaming event keeps the job delivering its stream. -/
theorem Delivering.streamStep {words : List Word} {σ : List Byte} {s s' t : State} {offer : Option Word}
    (hd : Delivering words σ s) (h : StreamStep s' offer t) (hs' : s' = { s with events := s'.events })
    (hoffer : s.events.filterMap (Event.inWord s.params) =
      offer.toList ++ s'.events.filterMap (Event.inWord s.params)) : Delivering words σ t := by
  cases hd with
  | finished hj hq hσ =>
    obtain ⟨hj', hq', hdone⟩ := h.stopped (by rw [hs', hj]; simp) (by rw [hs']; exact hq)
    rw [hs'] at hj' hdone
    exact .finished (hj'.trans hj) hq' (hdone.trans hσ)
  | overrun hj hq =>
    obtain ⟨hj', hq', -⟩ := h.stopped (by rw [hs', hj]; simp) (by rw [hs']; exact hq)
    rw [hs'] at hj'
    exact .overrun (hj'.trans hj) hq'
  | running hs hσ hpending =>
    rw [hoffer] at hpending
    have hstreams : Streams words (delivered s'.trace) s' := by
      rw [hs']
      exact hs.congr rfl
    have hσ' : s'.jobStream words = σ := by rw [hs']; exact hσ
    have hpending' : offer.toList ++ s'.events.filterMap (Event.inWord s'.params) <+:
        words.drop (s'.loadsDone + s'.inq.length) := by
      rw [hs'] at hpending ⊢
      exact hpending
    cases h with
    | engine t h => exact .engine hstreams hσ' hpending' h
    | registers r sel rep ho => exact .registers hstreams hσ' hpending' r ho
    | write v => exact .write hstreams hσ' hpending'
    | pop e rest hq => exact .pop hstreams hσ' hpending' hq

/-- Every step keeps a job delivering its stream, and the events streaming. -/
theorem Delivering.step {words : List Word} {σ : List Byte} {s t : State} (hd : Delivering words σ s)
    (hev : ∀ e ∈ s.events, isStreaming s.params e) (h : step s = .next t) :
    Delivering words σ t ∧ ∀ e ∈ t.events, isStreaming t.params e := by
  cases hq : s.events with
  | nil =>
    have hturn : StreamStep s none t := .engine t ((step_of_noEvents hq).symm.trans h)
    obtain ⟨hevents, hparams⟩ := hturn.events_params
    exact ⟨hd.streamStep hturn rfl rfl, by simp [hevents, hq]⟩
  | cons e rest =>
    rw [hq] at hev
    obtain ⟨he, hrest⟩ := List.forall_mem_cons.mp hev
    have hstep := step_streaming hq he h
    obtain ⟨hevents, hparams⟩ := hstep.events_params
    refine ⟨hd.streamStep hstep rfl ?_, by rw [hevents, hparams]; exact hrest⟩
    rw [hq]
    cases hw : e.inWord s.params <;> simp [hw]

theorem run_succ_next {s t : State} {k : Nat} (h : Sys2Proof.core.run (k + 1) s = .next t) :
    ∃ u, step s = .next u ∧ Sys2Proof.core.run k u = .next t := by
  cases hstep : step s with
  | next u => exact ⟨u, rfl, (run_succ hstep k).symm.trans h⟩
  | fault f =>
    have hcore : Sys2Proof.core.step s = .fault f := hstep
    simp [Host.Core.run, hcore] at h
  | refused r =>
    have hcore : Sys2Proof.core.step s = .refused r := hstep
    simp [Host.Core.run, hcore] at h

theorem Delivering.run {words : List Word} {σ : List Byte} {s t : State} (hd : Delivering words σ s)
    (hev : ∀ e ∈ s.events, isStreaming s.params e) {n : Nat} (h : Sys2Proof.core.run n s = .next t) :
    Delivering words σ t := by
  induction n generalizing s with
  | zero =>
    cases h
    exact hd
  | succ n ih =>
    obtain ⟨u, hstep, hrun⟩ := run_succ_next h
    obtain ⟨hu, hevu⟩ := hd.step hev hstep
    exact ih hu hevu hrun

/-- Settles O51: from a job's start every step keeps the job delivering its stream; in RUN what is read and queued
is a beginning of it, and the whole of it at the end of the program. -/
theorem everyInterleavingDeliversTheStream : Obligations.EveryInterleavingDeliversTheStream := by
  intro s t words n hstart htrace hlen hev hwords hrun hne
  have hrunInv : s.RunInv := runInv_at_start hstart.widthMul8 hstart.widthFits hstart.heightFits hstart.atStart
    hstart.notProduced hstart.noOutput (by rw [hstart.noInput]; exact hstart.allRemain)
  have hstreams : Streams words (delivered s.trace) s := by
    rw [htrace]
    exact streams_at_start hstart.paramsLegal hstart.running hrunInv hstart.atStart hstart.noOutput
      (by rw [hstart.noInput]; exact List.nil_prefix)
  have hpending : s.events.filterMap (Event.inWord s.params) <+: words.drop (s.loadsDone + s.inq.length) := by
    simpa [State.loadsDone, hstart.atStart, hstart.noInput] using hwords
  have hd : Delivering words (s.jobStream words) t := (Delivering.running hstreams rfl hpending).run hev hrun
  show _ <+: s.jobStream words ∧ (_ → _ → _ = s.jobStream words) ∧ (_ → _ = s.jobStream words)
  cases hd with
  | running hs hσ _ =>
    rw [← hσ]
    refine ⟨hs.output_prefix, fun _ hp => hs.output_at_end (hs.run.producedAtEnd.mp hp), fun hj => ?_⟩
    simp [hs.running] at hj
  | finished hj hq hσ =>
    refine ⟨?_, fun hj' => ?_, fun _ => hσ⟩
    · rw [hq, hσ]
      simp
    · simp [hj] at hj'
  | overrun hj => exact absurd hj hne

end Sys2Proof.Machine

/-! The arithmetic of a VISIT and its targets: the kernel (O41), DIFF (O42, O43) and TARGET (O44). -/

namespace Sys2Proof.Machine

/-! ### The kernel and DIFF (43 R181, R186, R196) -/

/-- Settles O41, by evaluating the table. -/
theorem kernelWeightsSumToOne : Obligations.KernelWeightsSumToOne := by
  unfold Obligations.KernelWeightsSumToOne
  decide

/-- Where the exact sum is not negative, truncation is the floor. -/
theorem diff_of_nonneg {s e w : Int} (h : 0 ≤ 48 * s + w * e) : diff s e w = s + w * e / 48 := by
  rw [diff, Int.tdiv_eq_ediv_of_nonneg h]
  omega

/-- Where the exact sum is negative, truncation is the ceiling. -/
theorem diff_of_neg {s e w : Int} (h : 48 * s + w * e < 0) : diff s e w = s - -(w * e) / 48 := by
  have hneg : (-(48 * s + w * e)).tdiv 48 = -(48 * s + w * e) / 48 := Int.tdiv_eq_ediv_of_nonneg (by omega)
  rw [Int.neg_tdiv] at hneg
  rw [diff]
  omega

/-- Settles O42, by the sign of the exact sum; an error of 0 leaves the exact multiple `48 * s`. -/
theorem diffTruncatesTheSumTowardZero : Obligations.DiffTruncatesTheSumTowardZero := by
  refine ⟨by decide, fun s e w => ⟨diff_of_nonneg, diff_of_neg, ?_⟩⟩
  rw [diff, mul_zero, add_zero, Int.mul_tdiv_cancel_left s (by decide)]

/-- The greatest weight of the kernel. -/
theorem kernel_weight_le : ∀ k ∈ kernel, k.w ≤ 7 := by decide

/-- Settles O43: the share is within `7 * 128` of zero, and the quotient lies between zero and the numerator. -/
theorem diffusionFitsTheDatapath : Obligations.DiffusionFitsTheDatapath := by
  intro s e k hk hslo hshi helo hehi
  obtain ⟨-, -, -, hwlo⟩ := kernel_bounds k hk
  have hwhi := kernel_weight_le k hk
  have hshare : -896 ≤ k.w * e ∧ k.w * e ≤ 896 := by constructor <;> nlinarith
  have hdiff := diff_between s e k.w
  have hlo : -146 ≤ diff s e k.w := by omega
  have hhi : diff s e k.w ≤ 401 := by omega
  exact ⟨by omega, by omega, hlo, hhi, cellOfInt_toInt (by omega) (by omega)⟩

/-! ### TARGET (43 R187, R188, R193) -/

theorem target_of_nonneg {x y jw : Nat} {wrap : Bool} {k : KernelEntry} (h : 0 ≤ (x : Int) + k.dx) :
    target x y jw wrap k = some (((x : Int) + k.dx).toNat, y + k.dy) := if_neg (by omega)

theorem target_of_neg {x y jw : Nat} {wrap : Bool} {k : KernelEntry} (h : (x : Int) + k.dx < 0) :
    target x y jw wrap k = if wrap then some (((x : Int) + k.dx + jw).toNat, y + k.dy) else none := if_pos h

/-- The entries of the current row point to the right (43 R182). -/
theorem kernel_right_of_current : ∀ k ∈ kernel, k.dy = 0 → 0 < k.dx := by decide

theorem kernel_offsets_distinct : kernel.Pairwise fun k k' => ¬ (k.dx = k'.dx ∧ k.dy = k'.dy) := by decide

/-- A kept target is later in the scan order than the current pixel (43 R193). -/
theorem target_later {x y jw tx ty : Nat} {wrap : Bool} {k : KernelEntry} (hk : k ∈ kernel)
    (h : target x y jw wrap k = some (tx, ty)) : y < ty ∨ (ty = y ∧ x < tx) := by
  have hright := kernel_right_of_current k hk
  obtain ⟨hrow, hcol⟩ := target_some h
  omega

/-- Entries with one target have the same offsets: a wrapped target is right of every unwrapped one of its row. -/
theorem offsets_eq_of_target_eq {x y jw : Nat} {wrap : Bool} {k k' : KernelEntry} {p : Nat × Nat} (hjw : 8 ≤ jw)
    (hk : k ∈ kernel) (hk' : k' ∈ kernel) (h : target x y jw wrap k = some p)
    (h' : target x y jw wrap k' = some p) : k.dx = k'.dx ∧ k.dy = k'.dy := by
  obtain ⟨hlo, hhi, -, -⟩ := kernel_bounds k hk
  obtain ⟨hlo', hhi', -, -⟩ := kernel_bounds k' hk'
  obtain ⟨hrow, hcol⟩ := target_some h
  obtain ⟨hrow', hcol'⟩ := target_some h'
  omega

/-- The kept targets of one VISIT are distinct (43 R188). -/
theorem nodup_targets {x y jw : Nat} {wrap : Bool} (hjw : 8 ≤ jw) :
    (kernel.filterMap (target x y jw wrap)).Nodup := by
  refine List.pairwise_filterMap.mpr (kernel_offsets_distinct.imp_of_mem fun hk hk' hne p hp p' hp' heq => ?_)
  subst heq
  exact hne (offsets_eq_of_target_eq hjw hk hk' hp hp')

/-- Settles O44, from TARGET's two branches and what they say of a kept target. -/
theorem visitTargetsAreDistinctAndLater : Obligations.VisitTargetsAreDistinctAndLater := by
  intro x y jw wrap hjw hx
  refine ⟨fun k hk => ⟨fun h => ⟨_, Int.toNat_of_nonneg h, target_of_nonneg h⟩,
      fun h hwrap => ?_, fun h hwrap => ?_⟩,
    nodup_targets hjw, fun p hp => ?_⟩
  · obtain ⟨hlo, -, -, -⟩ := kernel_bounds k hk
    refine ⟨((x : Int) + k.dx + jw).toNat, Int.toNat_of_nonneg (by omega), ?_⟩
    rw [target_of_neg h, if_pos hwrap]
  · rw [target_of_neg h, hwrap]
    rfl
  · obtain ⟨k, hk, ht⟩ := List.mem_filterMap.mp hp
    obtain ⟨hlo, hhi⟩ := target_row hk ht
    have hlater := target_later hk ht
    exact ⟨target_col hk hx ht, hlo, hhi, by omega⟩

end Sys2Proof.Machine

/-! A VISIT on ROWBUF, cell by cell (O39). -/

namespace Sys2Proof.Machine

/-! ### The cells that the kernel's entries write -/

/-- What one entry does, where it answers: nothing, or one write of DIFF to its target. -/
theorem diffuseEntry_ok {wMax jw y x : Nat} {wrap : Bool} {e : Int} {k : KernelEntry} {m m' : Memory}
    (h : diffuseEntry wMax jw wrap y x e k m = .ok m') :
    (target x y jw wrap k = none ∧ m' = m) ∨
    ∃ tx ty old, target x y jw wrap k = some (tx, ty) ∧ m.read (rowCellAddr ty tx) = some old ∧
      m' = m.write (rowCellAddr ty tx) (cellOfInt (diff old.toInt e k.w)) := by
  unfold diffuseEntry at h
  split at h
  · next hq => exact .inl ⟨hq, by simpa using h.symm⟩
  · next tx ty hq =>
    split at h
    · simp at h
    · next v hv =>
      obtain ⟨-, old, hold, rfl⟩ := Memory.readCell_ok hv
      obtain ⟨-, rfl⟩ := Memory.writeCell_ok h
      exact .inr ⟨tx, ty, old, hq, hold, rfl⟩

/-- A list of entries that answers does so entry by entry. -/
theorem diffuse_cons_ok {wMax jw y x : Nat} {wrap : Bool} {e : Int} {k : KernelEntry} {ks : List KernelEntry}
    {m m' : Memory} (h : diffuse wMax jw wrap y x e (k :: ks) m = .ok m') :
    ∃ m1, diffuseEntry wMax jw wrap y x e k m = .ok m1 ∧ diffuse wMax jw wrap y x e ks m1 = .ok m' := by
  unfold diffuse at h
  split at h
  · simp at h
  · next m1 h1 => exact ⟨m1, h1, h⟩

/-- The address of an entry's kept target. -/
def IsTargetAddr (x y jw : Nat) (wrap : Bool) (k : KernelEntry) (a : Nat) : Prop :=
  ∃ tx ty, target x y jw wrap k = some (tx, ty) ∧ a = rowCellAddr ty tx

theorem diffuseEntry_read_other {wMax jw y x a : Nat} {wrap : Bool} {e : Int} {k : KernelEntry} {m m' : Memory}
    (h : diffuseEntry wMax jw wrap y x e k m = .ok m') (ha : ¬ IsTargetAddr x y jw wrap k a) :
    m'.read a = m.read a := by
  obtain ⟨-, rfl⟩ | ⟨tx, ty, old, hq, -, rfl⟩ := diffuseEntry_ok h
  · rfl
  · exact Memory.read_write_other m (fun heq => ha ⟨tx, ty, hq, heq⟩) _

/-- A cell that is no entry's target stays as it is. -/
theorem diffuse_read_other {wMax jw y x a : Nat} {wrap : Bool} {e : Int} {ks : List KernelEntry} {m m' : Memory}
    (h : diffuse wMax jw wrap y x e ks m = .ok m') (ha : ∀ k ∈ ks, ¬ IsTargetAddr x y jw wrap k a) :
    m'.read a = m.read a := by
  induction ks generalizing m with
  | nil =>
    obtain rfl : m = m' := by simpa [diffuse] using h
    rfl
  | cons k rest ih =>
    obtain ⟨m1, h1, hrest⟩ := diffuse_cons_ok h
    obtain ⟨hk, harest⟩ := List.forall_mem_cons.mp ha
    rw [ih hrest harest, diffuseEntry_read_other h1 hk]

/-- An entry's target holds DIFF of the value it had before any of the entries, because no two write one cell. -/
theorem diffuse_read_target {wMax jw y x tx ty : Nat} {wrap : Bool} {e : Int} {ks : List KernelEntry}
    {m m' : Memory} (hdistinct : ks.Pairwise fun k k' => ∀ a, IsTargetAddr x y jw wrap k a →
      ¬ IsTargetAddr x y jw wrap k' a)
    (h : diffuse wMax jw wrap y x e ks m = .ok m') {k : KernelEntry} (hk : k ∈ ks)
    (hq : target x y jw wrap k = some (tx, ty)) :
    ∃ old, m.read (rowCellAddr ty tx) = some old ∧
      m'.read (rowCellAddr ty tx) = some (cellOfInt (diff old.toInt e k.w)) := by
  have haddr : IsTargetAddr x y jw wrap k (rowCellAddr ty tx) := ⟨tx, ty, hq, rfl⟩
  induction ks generalizing m with
  | nil => simp at hk
  | cons k1 rest ih =>
    obtain ⟨m1, h1, hrest⟩ := diffuse_cons_ok h
    obtain ⟨hfirst, hdrest⟩ := List.pairwise_cons.mp hdistinct
    obtain rfl | hk := List.mem_cons.mp hk
    · obtain ⟨hnone, -⟩ | ⟨tx', ty', old, hq', hold, rfl⟩ := diffuseEntry_ok h1
      · simp [hq] at hnone
      · obtain ⟨rfl, rfl⟩ : tx = tx' ∧ ty = ty' := by simpa [hq] using hq'
        refine ⟨old, hold, ?_⟩
        rw [diffuse_read_other hrest fun k' hk' => hfirst k' hk' _ haddr, Memory.read_write_same]
    · obtain ⟨old, hold, hnew⟩ := ih hdrest hrest hk
      exact ⟨old, (diffuseEntry_read_other h1 fun ha => hfirst k hk _ ha haddr).symm.trans hold, hnew⟩

/-! ### The whole VISIT -/

section Visit
variable {jw y x : Nat} {wrap : Bool} (hx : x + 3 ≤ jw) (hmax : jw ≤ 65536)
include hx hmax

/-- Targets with one address are one cell: their rows are in distinct slots. -/
theorem target_eq_of_addr {tx ty tx' ty' : Nat} {k k' : KernelEntry} (hk : k ∈ kernel) (hk' : k' ∈ kernel)
    (hq : target x y jw wrap k = some (tx, ty)) (hq' : target x y jw wrap k' = some (tx', ty'))
    (ha : rowCellAddr ty tx = rowCellAddr ty' tx') : (tx, ty) = (tx', ty') := by
  have hcol := target_col hk hx hq
  have hcol' := target_col hk' hx hq'
  have hrow := target_row hk hq
  have hrow' := target_row hk' hq'
  rw [rowCellAddr_inj (by omega) (by omega)] at ha
  rw [Prod.mk.injEq]
  omega

theorem distinct_targetAddrs (hjw : 8 ≤ jw) : kernel.Pairwise fun k k' => ∀ a, IsTargetAddr x y jw wrap k a →
    ¬ IsTargetAddr x y jw wrap k' a := by
  refine kernel_offsets_distinct.imp_of_mem fun hk hk' hne a ha ha' => ?_
  obtain ⟨tx, ty, hq, rfl⟩ := ha
  obtain ⟨tx', ty', hq', heq⟩ := ha'
  have hsame := target_eq_of_addr hx hmax hk hk' hq hq' heq
  exact hne (offsets_eq_of_target_eq hjw hk hk' hq (hsame ▸ hq'))

/-- The current pixel is no entry's target (43 R188). -/
theorem current_not_targetAddr {k : KernelEntry} (hk : k ∈ kernel) :
    ¬ IsTargetAddr x y jw wrap k (rowCellAddr y x) := by
  rintro ⟨tx, ty, hq, ha⟩
  have hcol := target_col hk hx hq
  have hrow := target_row hk hq
  have hlater := target_later hk hq
  rw [rowCellAddr_inj (by omega) (by omega)] at ha
  omega

/-- What VISIT(y, x) leaves in ROWBUF (43 R185): the threshold in the current cell, DIFF of the value before the
VISIT in each kept target, and every other cell as it was. -/
theorem visitCells_read {wMax : Nat} {m m' : Memory} (hjw : 8 ≤ jw) (h : visitCells wMax jw wrap y x m = .ok m') :
    ∃ c, m.read (rowCellAddr y x) = some c ∧
      m'.read (rowCellAddr y x) = some (cellOfInt (thr c.toInt)) ∧
      (∀ k ∈ kernel, ∀ tx ty, target x y jw wrap k = some (tx, ty) →
        ∃ old, m.read (rowCellAddr ty tx) = some old ∧
          m'.read (rowCellAddr ty tx) = some (cellOfInt (diff old.toInt (c.toInt - thr c.toInt) k.w))) ∧
      ∀ a, a ≠ rowCellAddr y x → (∀ k ∈ kernel, ¬ IsTargetAddr x y jw wrap k a) → m'.read a = m.read a := by
  obtain ⟨c, -, hc, hd⟩ := visitCells_ok h
  have hcurrent := fun k (hk : k ∈ kernel) => current_not_targetAddr (y := y) (wrap := wrap) hx hmax hk
  refine ⟨c, hc, ?_, fun k hk tx ty hq => ?_, fun a hne ha => ?_⟩
  · rw [diffuse_read_other hd hcurrent, Memory.read_write_same]
  · obtain ⟨old, hold, hnew⟩ := diffuse_read_target (distinct_targetAddrs hx hmax hjw) hd hk hq
    have hne : rowCellAddr ty tx ≠ rowCellAddr y x := fun heq => hcurrent k hk ⟨tx, ty, hq, heq.symm⟩
    rw [Memory.read_write_other _ hne] at hold
    exact ⟨old, hold, hnew⟩
  · rw [diffuse_read_other hd ha, Memory.read_write_other _ hne]

end Visit

/-- Settles O39: the VISIT answers because its rows hold values, and its writes go to cells that differ. -/
theorem visitDiffusesItsError : Obligations.VisitDiffusesItsError := by
  intro s y x hj hop hjw hfits hmax hrows
  obtain ⟨hx, -⟩ := visit_mem_jobProg (List.mem_of_getElem? hop)
  have hx3 : x + 3 ≤ s.jw.toNat := by omega
  obtain ⟨m, hm⟩ := visitCells_answers (wrap := s.jwrap) hfits hx3 hrows
  obtain ⟨c, hc, hcurrent, htargets, hother⟩ := visitCells_read hx3 (by omega) hjw hm
  refine ⟨c, m, hc, engineTurn_of_enabled (currentOp_eq_some.mpr ⟨hj, hop⟩) rfl (microOp_visit hm), hcurrent,
    htargets, fun a hne ha => hother a hne ?_⟩
  rintro k hk ⟨tx, ty, hq, heq⟩
  exact ha k hk tx ty hq heq

end Sys2Proof.Machine

/-! What the dense ditherer ends with (43 R198): the range of every pixel (O49), and black or white where a pixel
was visited (O48). -/

namespace Sys2Proof.Machine

/-- Settles O49: the visits taken are distinct and inside the columns, so no pixel has received more than 48 units
of weight. -/
theorem ditheringStaysInRange : Obligations.DitheringStaysInRange := by
  intro i w h n wrap _ _ hi y x
  have hsub := List.take_sublist n (visitOrder w h)
  have hnodup := hsub.nodup (nodup_visitOrder w h)
  have hcol : ∀ v ∈ (visitOrder w h).take n, v.2 + 3 ≤ w := fun v hv => (mem_visitOrder (hsub.subset hv)).2
  exact (withinShares_ditherVisits hi _ hnodup hcol).range (received_le hnodup hcol y x)

/-! ### A visited pixel is not written again (43 R193) -/

/-- Row-major order of (row, column) pairs. -/
def ScanBefore (p q : Nat × Nat) : Prop := p.1 < q.1 ∨ (p.1 = q.1 ∧ p.2 < q.2)

theorem visitOrder_scanBefore (w h : Nat) : (visitOrder w h).Pairwise ScanBefore := by
  refine List.pairwise_flatMap.mpr ⟨fun y _ => ?_, List.pairwise_lt_range.imp fun hlt p hp q hq => ?_⟩
  · exact List.pairwise_map.mpr (List.pairwise_lt_range.imp fun hlt => .inr ⟨rfl, hlt⟩)
  · obtain ⟨_, -, rfl⟩ := List.mem_map.mp hp
    obtain ⟨_, -, rfl⟩ := List.mem_map.mp hq
    exact .inl hlt

theorem mem_visitOrder_of_lt {w h y x : Nat} (hy : y + 3 ≤ h) (hx : x + 3 ≤ w) : (y, x) ∈ visitOrder w h :=
  List.mem_flatMap.mpr ⟨y, List.mem_range.mpr (by omega),
    List.mem_map.mpr ⟨x, List.mem_range.mpr (by omega), rfl⟩⟩

/-- The entries of a visit leave its own pixel and every earlier one alone. -/
theorem get_foldl_ditherEntry_earlier {w y x t col : Nat} {wrap : Bool} {ks : List KernelEntry}
    (hks : ∀ k ∈ ks, k ∈ kernel) (hle : (t, col) = (y, x) ∨ ScanBefore (t, col) (y, x)) (e : Int) (p : Image) :
    Image.get (ks.foldl (ditherEntry w wrap y x e) p) t col = Image.get p t col := by
  induction ks generalizing p with
  | nil => rfl
  | cons k rest ih =>
    obtain ⟨hk, hrest⟩ := List.forall_mem_cons.mp hks
    rw [List.foldl_cons, ih hrest]
    cases hq : target x y w wrap k with
    | none => rw [ditherEntry_of_discarded hq]
    | some q =>
      have hlater := target_later hk hq
      rw [ditherEntry_of_target hq, Image.get_set_ne]
      simp only [ScanBefore, Prod.mk.injEq] at hle
      omega

theorem get_ditherVisits_earlier {w t col : Nat} {wrap : Bool} {vs : List (Nat × Nat)}
    (hvs : ∀ v ∈ vs, ScanBefore (t, col) v) (p : Image) :
    Image.get (ditherVisits w wrap vs p) t col = Image.get p t col := by
  induction vs generalizing p with
  | nil => rfl
  | cons v rest ih =>
    obtain ⟨hv, hrest⟩ := List.forall_mem_cons.mp hvs
    have hne : ¬ (t = v.1 ∧ col = v.2) := by
      simp only [ScanBefore] at hv
      omega
    calc Image.get (ditherVisits w wrap (v :: rest) p) t col
        = Image.get (ditherVisit w wrap p v.1 v.2) t col := ih hrest _
      _ = Image.get (Image.set p v.1 v.2 (thr (Image.get p v.1 v.2))) t col :=
          get_foldl_ditherEntry_earlier (fun _ => id) (.inr hv) _ _
      _ = Image.get p t col := Image.get_set_ne p hne _

theorem get_ditherVisit_self {p : Image} {w h y x : Nat} {wrap : Bool} (hp : p.hasSize w h) (hy : y < h)
    (hx : x < w) : Image.get (ditherVisit w wrap p y x) y x = thr (Image.get p y x) := by
  rw [ditherVisit, get_foldl_ditherEntry_earlier (fun _ => id) (.inl rfl), Image.get_set_self hp hy hx]

/-- Settles O48: the pixel's own visit leaves its threshold there, and every later visit is later in row-major
order, where it writes only what is later still. -/
theorem visitedPixelsEndBlackOrWhite : Obligations.VisitedPixelsEndBlackOrWhite := by
  intro i w h y x wrap hi _ hy hx
  obtain ⟨before, after, hsplit⟩ := List.append_of_mem (mem_visitOrder_of_lt hy hx)
  have hsorted := visitOrder_scanBefore w h
  rw [hsplit] at hsorted
  obtain ⟨hafter, -⟩ := List.pairwise_cons.mp (List.pairwise_append.mp hsorted).2.1
  have hget : Image.get (dither i w h wrap) y x = thr (Image.get (ditherVisits w wrap before i) y x) := by
    rw [dither_eq_ditherVisits, hsplit, ditherVisits_append]
    exact (get_ditherVisits_earlier hafter _).trans
      (get_ditherVisit_self (hi.ditherVisits before) (by omega) (by omega))
  rw [hget, thr]
  split
  · exact .inr rfl
  · exact .inl rfl

end Sys2Proof.Machine

/-! The range of the cells in every reachable state (O56): a running job's cells hold the pixels of the dense
ditherer on the image of the words that have come, whatever words are still to come. -/

namespace Sys2Proof.Machine

/-! ### Runs from reset -/

/-- What holds right after reset and is kept by every step holds in every reachable state. -/
theorem Reachable.induction {P : State → Prop} (hboot : ∀ p evs, p.legal → P (State.boot p evs))
    (hstep : ∀ s t, P s → step s = .next t → P t) {s : State} (h : Reachable s) : P s := by
  obtain ⟨p, evs, n, hp, hrun⟩ := h
  have hs := hboot p evs hp
  generalize State.boot p evs = b at hs hrun
  induction n generalizing b with
  | zero =>
    cases hrun
    exact hs
  | succ n ih =>
    obtain ⟨u, hu, hrest⟩ := run_succ_next hrun
    exact ih u (hstep b u hs hu) hrest

/-! ### A running job whose later words are open -/

/-- A running job is on the stream of every word sequence that begins with the words loaded and queued. -/
def State.OnStream (s : State) : Prop :=
  ∃ loaded done, loaded.length = s.loadsDone ∧ ∀ later, Streams (loaded ++ s.inq ++ later) done s

/-- The stream does not depend on CMD_ERR, the host's own registers, the events or the record. -/
theorem State.OnStream.congr {s t : State} (h : s.OnStream)
    (ht : t = { s.withHostView t with cmdErr := t.cmdErr }) : t.OnStream := by
  obtain ⟨loaded, done, hlen, hs⟩ := h
  rw [ht]
  refine ⟨loaded, done, hlen, fun later => ?_⟩
  have h := hs later
  exact ⟨h.legal, h.running, h.run.withOutside { s.withHostView t with cmdErr := t.cmdErr }, h.input, h.output,
    h.cells⟩

theorem State.OnStream.observe {s : State} (h : s.OnStream) (sel : BitVec 7) (r : Reply) :
    (s.observe sel r).OnStream := h.congr rfl

theorem State.Inv.onStream_beginJob {s : State} (h : s.Inv) (hj : s.jobState = .idle)
    (hd : dimCheck s.params.wMax s.width.toNat s.height.toNat = .none) : s.beginJob.OnStream := by
  have hq : s.inq = [] := h.inqIdle (by simp [hj])
  have ho : s.outq = [] := h.outqIdle (by simp [hj])
  refine ⟨[], [], by simp [State.loadsDone], fun later => ?_⟩
  exact streams_at_start h.paramsLegal rfl (runInv_beginJob h.paramsLegal hq ho hd) rfl ho (List.prefix_append _ _)

theorem State.OnStream.acceptWord {s : State} (h : s.OnStream) (v : Word) (hr : s.inRemain ≠ 0#32) :
    ({ s.inPush v with inRemain := s.inRemain - 1#32 } : State).OnStream := by
  obtain ⟨loaded, done, hlen, hs⟩ := h
  refine ⟨loaded, done, hlen, fun later => ?_⟩
  have hwords : loaded ++ s.inq ++ ([v] ++ later) = loaded ++ (s.inq ++ [v]) ++ later := by
    simp only [List.append_assoc]
  refine (hwords ▸ hs ([v] ++ later)).acceptWord hr ?_
  rw [List.append_assoc, ← hlen, List.drop_left]
  exact List.prefix_append _ _

theorem State.OnStream.popByte {s : State} (h : s.OnStream) {e : OutEntry} {rest : List OutEntry}
    (hq : s.outq = e :: rest) (he : e.last = false) : ({ s with outq := rest } : State).OnStream := by
  obtain ⟨loaded, done, hlen, hs⟩ := h
  exact ⟨loaded, done ++ [e.byte], hlen, fun later => (hs later).popByte hq he⟩

theorem Streams.microOp_next {words : List Word} {done : List Byte} {s t : State} {op : MicroOp}
    (h : Streams words done s) (hop : s.prog[s.seq]? = some op) (hg : guard op s = true)
    (ho : Machine.microOp op s = .ok t) : Streams words done t := by
  obtain ⟨u, hu, hnext⟩ := h.microOp hop hg
  obtain rfl : u = t := Except.ok.inj (hu.symm.trans ho)
  exact hnext

/-- A micro-op moves at most one word from the queued to the loaded ones. -/
theorem State.OnStream.microOp {s t : State} {op : MicroOp} (h : s.OnStream) (hop : s.prog[s.seq]? = some op)
    (hg : guard op s = true) (ho : microOp op s = .ok t) : t.OnStream := by
  obtain ⟨loaded, done, hlen, hs⟩ := h
  have hprog : t.prog = s.prog := by
    obtain ⟨_, -, rfl⟩ | ⟨_, _, _, _, _, -, -, -, rfl⟩ | ⟨_, _, _, -, -, rfl⟩ | ⟨_, _, _, -, -, rfl⟩ :=
      microOp_ok hg ho <;> rfl
  have hcount := loadsDone_next hop hprog (microOp_seq hg ho)
  have hwords : ∃ loaded', loaded'.length = t.loadsDone ∧ loaded' ++ t.inq = loaded ++ s.inq := by
    rw [hcount, ← hlen]
    obtain ⟨k, rfl, rfl⟩ | ⟨r, i, w, rest, m, rfl, hq, -, rfl⟩ | ⟨y, x, m, rfl, -, rfl⟩ |
      ⟨y, b, byte, rfl, -, rfl⟩ := microOp_ok hg ho
    · exact ⟨loaded, rfl, rfl⟩
    · exact ⟨loaded ++ [w], by simp [MicroOp.isLoad], by simp [hq]⟩
    · exact ⟨loaded, rfl, rfl⟩
    · exact ⟨loaded, rfl, rfl⟩
  obtain ⟨loaded', hlen', heq⟩ := hwords
  refine ⟨loaded', done, hlen', fun later => ?_⟩
  rw [heq]
  exact (hs later).microOp_next hop hg ho

/-! ### The cells -/

/-- Every cell that holds a value is in the range of 43 R195. -/
def CellsInRange (m : Memory) : Prop := ∀ a c, m.read a = some c → -128 ≤ c.toInt ∧ c.toInt ≤ 383

theorem cellsInRange_nil : CellsInRange [] := by simp [CellsInRange]

theorem cellOfInt_range {v : Int} (h : -128 ≤ v ∧ v ≤ 383) :
    -128 ≤ (cellOfInt v).toInt ∧ (cellOfInt v).toInt ≤ 383 := by
  rwa [cellOfInt_toInt (by omega) (by omega)]

/-- A live cell of a running job is in range: it holds a pixel of the dense ditherer. -/
theorem Streams.live_range {s : State} {words : List Word} {done : List Byte} (h : Streams words done s)
    {t col : Nat} {c : Cell} (hcol : col < s.jw.toNat) (hload : MicroOp.load t (col / 4) ∈ s.prog.take s.seq)
    (hnot : MicroOp.load (t + 3) (col / 4) ∉ s.prog.take s.seq) (hc : s.rowbuf.read (rowCellAddr t col) = some c) :
    -128 ≤ c.toInt ∧ c.toInt ≤ 383 := by
  obtain rfl := Option.some.inj (hc.symm.trans (h.cells t col hcol hload hnot))
  exact cellOfInt_range ((withinShares_dithered s words s.seq).range (weight_le s s.seq t col))

section Engine
variable {s : State} {words : List Word} {done : List Byte} {m : Memory} (h : Streams words done s)
  (hcells : CellsInRange s.rowbuf)
include h hcells

theorem Streams.load_cellsInRange {r i : Nat} {w : Word} (hop : s.prog[s.seq]? = some (.load r i))
    (hm : loadCells s.params.wMax r i w [0, 1, 2, 3] s.rowbuf = .ok m) : CellsInRange m := by
  obtain ⟨-, hi⟩ := load_mem_jobProg (List.mem_of_getElem? hop)
  have hfits := h.run.widthFits
  obtain ⟨m', hm', hpix, hother⟩ := loadCells_read (t := r) w s.rowbuf (show 4 * i + 3 < s.params.wMax by omega)
  obtain rfl : m' = m := by simpa [hm] using hm'.symm
  intro a c hc
  by_cases ha : ∃ k, k < 4 ∧ a = rowCellAddr r (4 * i + k)
  · obtain ⟨k, hk, rfl⟩ := ha
    obtain rfl : cellOfInt (pixelOfWord w k) = c := by simpa [hpix k hk] using hc
    obtain ⟨hlo, hhi⟩ := pixelOfWord_range w k
    exact cellOfInt_range (by omega)
  · rw [hother a fun k hk heq => ha ⟨k, hk, heq⟩] at hc
    exact hcells a c hc

/-- A VISIT leaves pixels of the dense ditherer in its three rows, and every other cell as it was. -/
theorem Streams.visit_cellsInRange {y x : Nat} (hop : s.prog[s.seq]? = some (.visit y x))
    (hm : visitCells s.params.wMax s.jw.toNat s.jwrap y x s.rowbuf = .ok m)
    (hnext : Streams words done ({ s with rowbuf := m } : State).advance) : CellsInRange m := by
  obtain ⟨hx, -⟩ := visit_mem_jobProg (List.mem_of_getElem? hop)
  have h8 := h.run.widthMul8
  have hwidth := h.width_le
  have hx3 : x + 3 ≤ s.jw.toNat := by omega
  obtain ⟨-, -, -, -, hother⟩ := visitCells_read hx3 (by omega) (by omega) hm
  have hloads (t i : Nat) : MicroOp.load t i ∈ s.prog.take (s.seq + 1) ↔ i < s.jw.toNat / 4 ∧ t < y + 3 := by
    simpa using (mem_take_seq_next hop).trans (or_congr_left (load_mem_take_visit hop))
  intro a c hc
  by_cases ha : ∃ t col, y ≤ t ∧ t ≤ y + 2 ∧ col < s.jw.toNat ∧ a = rowCellAddr t col
  · obtain ⟨t, col, hlo, hhi, hcol, rfl⟩ := ha
    refine hnext.live_range hcol ((hloads _ _).mpr ⟨by omega, by omega⟩) (fun hm => ?_) hc
    obtain ⟨-, hlt⟩ := (hloads _ _).mp hm
    omega
  · refine hcells a c ((hother a (fun heq => ha ⟨y, x, by omega, by omega, by omega, heq⟩) ?_).symm.trans hc)
    rintro k hk ⟨tx, ty, hq, heq⟩
    obtain ⟨hlo, hhi⟩ := target_row hk hq
    exact ha ⟨ty, tx, hlo, hhi, target_col hk hx3 hq, heq⟩

end Engine

/-! ### The invariant -/

/-- 43 R195 with what makes it inductive. -/
structure State.InRange (s : State) : Prop where
  inv : s.Inv
  cells : CellsInRange s.rowbuf
  job : s.jobState = .run → s.OnStream

theorem State.InRange.withEvents {s : State} (h : s.InRange) (evs : List Event) :
    ({ s with events := evs } : State).InRange :=
  ⟨h.inv.congr rfl, h.cells, fun hj => (h.job hj).congr rfl⟩

theorem HostEffect.onStream {i : Instr} {s u : State} (hu : HostEffect s i u) (h : s.InRange)
    (hj : u.jobState = .run) : u.OnStream := by
  cases hu with
  | registers => exact (h.job hj).congr rfl
  | badCommand => exact (h.job hj).congr rfl
  | startJob _ hidle hd => exact h.inv.onStream_beginJob hidle hd
  | clearFlag => exact (h.job hj).congr rfl
  | acceptWord v _ hrun hr => exact (h.job hrun).acceptWord v hr
  | popByte e rest _ hq he => exact (h.job hj).popByte hq he
  | startError | abort | clearEnded | overrun | popLast => cases hj

theorem exec_inRange {i : Instr} {s t : State} (h : s.InRange) (hx : exec i s = .next t) : t.InRange := by
  have hinv := exec_inv h.inv hx
  obtain ⟨sel, r, rfl⟩ := exec_next hx
  refine ⟨hinv, ?_, fun hj => ((instrEffect_hostEffect i s).onStream h hj).observe sel r⟩
  obtain hrow | hrow := instrEffect_rowbuf i s <;> rw [State.observe_rowbuf, hrow]
  · exact h.cells
  · exact cellsInRange_nil

theorem hostStep_inRange {r : HostRequest} {s t : State} (h : s.InRange) (hx : hostStep r s = .next t) :
    t.InRange := by
  obtain ⟨-, rfl⟩ | ⟨_, _, -, -, hx⟩ := hostStep_next hx
  · exact h
  · exact exec_inRange h hx

theorem microOp_cellsInRange {op : MicroOp} {s t : State} (h : s.InRange) (hj : s.jobState = .run)
    (hop : s.prog[s.seq]? = some op) (hg : guard op s = true) (ho : microOp op s = .ok t) :
    CellsInRange t.rowbuf := by
  obtain ⟨loaded, done, -, hs⟩ := h.job hj
  have hnext := (hs []).microOp_next hop hg ho
  obtain ⟨k, rfl, rfl⟩ | ⟨r, i, w, rest, m, rfl, -, hm, rfl⟩ | ⟨y, x, m, rfl, hm, rfl⟩ |
    ⟨y, b, byte, rfl, -, rfl⟩ := microOp_ok hg ho
  · exact h.cells
  · exact (hs []).load_cellsInRange h.cells hop hm
  · exact (hs []).visit_cellsInRange h.cells hop hm hnext
  · exact h.cells

theorem engineTurn_inRange {s t : State} (h : s.InRange) (he : engineTurn s = .next t) : t.InRange := by
  have hinv := engineTurn_inv h.inv he
  obtain ⟨rfl, -⟩ | ⟨op, hc, hg, ho⟩ := engineTurn_next he
  · exact h
  · obtain ⟨hj, hop⟩ := currentOp_eq_some.mp hc
    exact ⟨hinv, microOp_cellsInRange h hj hop hg ho, fun _ => (h.job hj).microOp hop hg ho⟩

theorem step_inRange {s t : State} (h : s.InRange) (hstep : step s = .next t) : t.InRange := by
  obtain ⟨-, he⟩ | ⟨rest, -, he⟩ | ⟨r, rest, -, hh⟩ | ⟨rest, -, rfl⟩ := step_next hstep
  · exact engineTurn_inRange h he
  · exact engineTurn_inRange (h.withEvents rest) he
  · exact hostStep_inRange (h.withEvents rest) hh
  · exact ⟨(h.withEvents rest).inv.resetBlock, cellsInRange_nil, fun hj => by cases hj⟩

theorem boot_inRange {p : Params} (evs : List Event) (hp : p.legal) : (State.boot p evs).InRange :=
  ⟨invariantHoldsAfterReset.1 p evs hp, cellsInRange_nil, fun hj => by cases hj⟩

/-- Settles O56: after reset no cell holds a value, and every step keeps the cells in range, because a running job
has the dense ditherer's pixels in its rows, and these are in range (43 R195). -/
theorem reachableCellsStayInRange : Obligations.ReachableCellsStayInRange := by
  intro s a c hs hc
  have hrange : s.InRange := Reachable.induction (fun _ evs hp => boot_inRange evs hp) (fun _ _ => step_inRange) hs
  obtain ⟨hlo, hhi⟩ := hrange.cells a c hc
  exact ⟨hlo, hhi, thr_error_range hlo hhi⟩

end Sys2Proof.Machine

/-! The packer (44_packer.md): what a PACK pushes (O38), what the header encodes (O45), and the packed bitmap of
an all-white and of an all-black image (O47). -/

namespace Sys2Proof.Machine

/-! ### PACK and the header -/

/-- Settles O38: the eight cells give PACK its byte, whose bits `getLsbD_packedByte` says, and its push is
`produce`, which tags by IS_LAST. -/
theorem packPushesItsEightPixels : Obligations.PackPushesItsEightPixels := by
  intro s y b f hj hop hroom hfit hcells
  have hbyte := packByte_of_reads (m := s.rowbuf) (wMax := s.params.wMax) (y := y) (b := b) f fun i hi => by
    obtain ⟨c, hc, hf⟩ := hcells i hi
    rw [← hf]
    exact Memory.readCell_of_read (by omega) hc
  refine ⟨_, fun i hi => getLsbD_packedByte f hi, ?_⟩
  rw [engineTurn_of_enabled (currentOp_eq_some.mpr ⟨hj, hop⟩) (by simp [guard, hroom]) (microOp_pack hbyte),
    ← isLast_eq]
  rfl

/-- MODE as a number (44 R211). -/
theorem toNat_modeByte (jdw jdh : Bool) :
    (modeByte jdw jdh).toNat = (if jdw then 1 else 0) + (if jdh then 2 else 0) := by
  revert jdw jdh; decide

/-- The low and the high byte of a 16-bit number give it back (44 R210). -/
theorem lowByte_add_highByte {n : Nat} (hn : n ≤ 65535) :
    (BitVec.ofNat 8 (n % 256)).toNat + 256 * (BitVec.ofNat 8 (n / 256)).toNat = n := by
  simp only [BitVec.toNat_ofNat]
  omega

/-- Settles O45, byte by byte of the header. -/
theorem headerEncodesModeAndDimensions : Obligations.HeaderEncodesModeAndDimensions :=
  fun _ _ dw dh hw hh => ⟨_, _, _, _, _, rfl, toNat_modeByte dw dh, lowByte_add_highByte hw, lowByte_add_highByte hh⟩

/-! ### An image of black and white pixels is its own dithering (44 R219)

Where a pixel is its own threshold its visit has the error 0, and an error of 0 changes no target. -/

/-- Writing a pixel's own value changes nothing, inside the image or outside. -/
theorem Image.set_get (p : Image) (y x : Nat) : Image.set p y x (Image.get p y x) = p := by
  by_cases hy : y < p.length
  · by_cases hx : x < p[y].length
    · simp [Image.set, Image.get, hy, hx]
    · simp [Image.set, hy, List.set_eq_of_length_le (Nat.le_of_not_lt hx)]
  · exact List.set_eq_of_length_le (Nat.le_of_not_lt hy)

theorem ditherEntry_zero {w y x : Nat} {wrap : Bool} (p : Image) (k : KernelEntry) :
    ditherEntry w wrap y x 0 p k = p := by
  cases hq : target x y w wrap k with
  | none => exact ditherEntry_of_discarded hq 0 p
  | some q =>
    obtain ⟨-, -, hdiff⟩ := diffTruncatesTheSumTowardZero.2 (Image.get p q.2 q.1) 0 k.w
    rw [ditherEntry_of_target hq, hdiff, Image.set_get]

theorem ditherVisit_of_thr_eq {w y x : Nat} {wrap : Bool} {p : Image}
    (h : thr (Image.get p y x) = Image.get p y x) : ditherVisit w wrap p y x = p := by
  rw [ditherVisit, h, sub_self, Image.set_get]
  exact List.foldl_fixed' (ditherEntry_zero p) kernel

theorem dither_of_thr_eq {p : Image} (hp : ∀ y x, thr (Image.get p y x) = Image.get p y x) (w h : Nat)
    (wrap : Bool) : dither p w h wrap = p :=
  List.foldl_fixed' (fun yx => ditherVisit_of_thr_eq (hp yx.1 yx.2)) (visitOrder w h)

/-! ### The packed bitmap of an image of one value -/

theorem dither_plain {c : Int} (hc : thr c = c) (w h : Nat) (wrap : Bool) :
    dither (Image.ofPixels w h fun _ _ => c) w h wrap = Image.ofPixels w h fun _ _ => c := by
  refine dither_of_thr_eq (fun y x => ?_) w h wrap
  obtain hget | hget := Image.get_ofPixels_cases w h y x fun _ _ => c
  · rw [hget, hc]
  · rw [hget]
    rfl

/-- A byte of an image is packed from the eight pixels it covers (44 R216). -/
theorem denseByte_of_get {p : Image} {y b : Nat} {c : Int} (hp : ∀ i, i < 8 → Image.get p y (8 * b + i) = c) :
    denseByte p y b = [0, 1, 2, 3, 4, 5, 6, 7].foldl (fun acc i => acc ||| bitAt (bit c) i) 0#8 := by
  refine List.foldl_ext _ _ _ fun acc i hi => ?_
  rw [hp i (List.mem_range.mp hi)]

/-- The bytes of the bitmap of an image of one value are all the byte packed from that value. -/
theorem packAll_plain (w h : Nat) (c : Int) : packAll (Image.ofPixels w h fun _ _ => c) w h =
    List.replicate (w / 8 * h) ([0, 1, 2, 3, 4, 5, 6, 7].foldl (fun acc i => acc ||| bitAt (bit c) i) 0#8) := by
  refine List.eq_replicate_iff.mpr ⟨length_packAll .., fun byte hbyte => ?_⟩
  obtain ⟨y, hy, hrow⟩ := List.mem_flatMap.mp hbyte
  obtain ⟨b, hb, rfl⟩ := List.mem_map.mp hrow
  rw [List.mem_range] at hy hb
  exact denseByte_of_get fun i hi => Image.get_ofPixels hy (by omega) _

/-- Settles O47: white and black are their own thresholds, so the dithering is the image itself, and its bytes
are packed from eight white or eight black pixels. -/
theorem whiteAndBlackImagesStayPlain : Obligations.WhiteAndBlackImagesStayPlain := by
  refine fun w h wrap _ => ⟨?_, ?_⟩
  · rw [dither_plain (by decide), packAll_plain]
    rfl
  · rw [dither_plain (by decide), packAll_plain]
    rfl

end Sys2Proof.Machine

/-! Errors and the interrupt line (60_exceptions.md): what raises an error (O25), how ERROR is left (O30), and the
line as the OR of its enabled conditions (O28). -/

namespace Sys2Proof.Machine

/-! ### What raises an error (60 R230) -/

theorem exec_raises_error {i : Instr} {s t : State} (h : exec i s = .next t) (hs : s.jobState ≠ .error)
    (ht : t.jobState = .error) :
    (isStart i ∧ s.jobState = .idle ∧ t.errCode ≠ .none ∧
      t.errCode = dimCheck s.params.wMax s.width.toNat s.height.toNat) ∨
    (∃ v, i = .wrInData v ∧ s.jobState = .run ∧ t.errCode = .inOverrun ∧
      (s.inRemain = 0#32 ∨ s.inq.length = s.params.inDepth)) := by
  obtain ⟨u, sel, r, hu, rfl⟩ := exec_hostEffect h
  cases hu with
  | startError hi hj hd => exact .inl ⟨hi, hj, hd, rfl⟩
  | overrun v hi hj hf => exact .inr ⟨v, hi, hj, rfl, hf⟩
  | registers | badCommand | clearFlag | acceptWord | popByte => exact absurd ht hs
  | startJob | abort | clearEnded | popLast => simp at ht

/-- The engine does not write STATE (42 R171). -/
theorem engineTurn_jobState {s t : State} (h : engineTurn s = .next t) : t.jobState = s.jobState :=
  (congrArg State.jobState (engineTurn_frame h) :)

/-- Settles O25, by the effects of an instruction, two of which enter ERROR, and the engine's frame. -/
theorem onlyStartAndOverrunRaiseErrors : Obligations.OnlyStartAndOverrunRaiseErrors :=
  ⟨fun _ _ _ => exec_raises_error, fun _ _ h hs => (engineTurn_jobState h).trans_ne hs⟩

/-! ### How ERROR is left (60 R237, R238) -/

theorem engineTurn_of_not_run {s : State} (hj : s.jobState ≠ .run) : engineTurn s = .next s :=
  engineTurn_of_disabled (by simp [State.engineEnabled, currentOp_of_not_run hj])

/-- From `s` in ERROR to `t` the error stays as it was raised. -/
def State.KeepsError (s t : State) : Prop := t.jobState = .error ∧ t.errCode = s.errCode

/-- An instruction run in ERROR keeps the error, or is CLEAR or ABORT and leads to IDLE. The other effects act in
another STATE, or pop a byte, of which there is none in ERROR (10 R49). -/
theorem exec_from_error {i : Instr} {s t : State} (hinv : s.Inv) (hs : s.jobState = .error)
    (h : exec i s = .next t) : s.KeepsError t ∨ (t.jobState = .idle ∧ (isClear i ∨ isAbort i)) := by
  have hempty : s.outq = [] := hinv.outqIdle (by simp [hs])
  obtain ⟨u, sel, r, hu, rfl⟩ := exec_hostEffect h
  cases hu with
  | abort hi => exact .inr ⟨rfl, .inr hi⟩
  | clearEnded hi => exact .inr ⟨rfl, .inl hi⟩
  | registers | badCommand | clearFlag => exact .inl ⟨hs, rfl⟩
  | startJob _ hj | startError _ hj | acceptWord _ _ hj | overrun _ _ hj => simp [hs] at hj
  | popByte _ _ _ hq | popLast _ _ _ hq => simp [hempty] at hq

theorem engineTurn_from_error {s t : State} (hs : s.jobState = .error) (h : engineTurn s = .next t) :
    s.KeepsError t := by
  rw [engineTurn_of_not_run (by simp [hs])] at h
  cases h
  exact ⟨hs, rfl⟩

/-- A step from ERROR keeps the error, or is the reset, CLEAR or ABORT and leads to IDLE. -/
theorem step_from_error {s t : State} (hinv : s.Inv) (hs : s.jobState = .error) (h : step s = .next t) :
    s.KeepsError t ∨
      (t.jobState = .idle ∧ (s.resetsNext ∨ ∃ i, s.runsNext i ∧ (isClear i ∨ isAbort i))) := by
  obtain ⟨-, he⟩ | ⟨rest, -, he⟩ | ⟨r, rest, hev, hh⟩ | ⟨rest, hev, rfl⟩ := step_next h
  · exact .inl (engineTurn_from_error hs he)
  · exact .inl (engineTurn_from_error (s := { s with events := rest }) hs he)
  · obtain ⟨-, rfl⟩ | ⟨bytes, i, hf, hd, hx⟩ := hostStep_next hh
    · exact .inl ⟨hs, rfl⟩
    · obtain hk | ⟨hidle, hi⟩ := exec_from_error (s := { s with events := rest }) (hinv.congr rfl) hs hx
      · exact .inl hk
      · exact .inr ⟨hidle, .inr ⟨i, ⟨r, rest, bytes, hev, hf, hd⟩, hi⟩⟩
  · exact .inr ⟨rfl, .inl ⟨rest, hev⟩⟩

/-- Settles O30, by the two ways a step from ERROR can go; IN_DATA writes (O15) and START (O19) have their branch
for another STATE. -/
theorem onlyClearAbortAndResetLeaveError : Obligations.OnlyClearAbortAndResetLeaveError := by
  intro s hinv hs
  have hrun : s.jobState ≠ .run := by simp [hs]
  have hidle : s.jobState ≠ .idle := by simp [hs]
  refine ⟨fun t h ht => ?_, fun t h ht => ?_, fun v => ?_, ?_, engineTurn_of_not_run hrun⟩
  · exact (step_from_error hinv hs h).resolve_left fun ⟨herr, _⟩ => ht herr
  · obtain ⟨-, hcode⟩ | ⟨hleft, -⟩ := step_from_error hinv hs h
    · exact hcode
    · simp [ht] at hleft
  · obtain ⟨-, hignored, -⟩ := inDataWriteIsIgnoredRefusedOrAccepted s v
    exact hignored hrun
  · obtain ⟨hbusy, -⟩ := startRejectsBadDimensionsAndBusyStates s
    exact hbusy hidle

/-! ### The interrupt line (60 R241, R242) -/

theorem irq_iff (s : State) : s.irq = true ↔
    (s.doneEn = true ∧ s.jobState = .done) ∨ (s.errEn = true ∧ s.jobState = .error) ∨
      (s.cmdErrEn = true ∧ s.cmdErr = true) := by
  simp [State.irq, or_assoc]

/-- In IDLE and in RUN only CMD_ERR can hold the line. -/
theorem irq_of_not_ended {s : State} (hj : s.jobState = .idle ∨ s.jobState = .run) :
    s.irq = (s.cmdErrEn && s.cmdErr) := by
  obtain hj | hj := hj <;> simp [State.irq, hj]

theorem clearErrors_not_ended (s : State) :
    s.clearErrors.jobState = .idle ∨ s.clearErrors.jobState = .run := by
  rw [State.clearErrors_jobState]
  cases s.jobState <;> simp

theorem irq_clearErrors (s : State) : s.clearErrors.irq = false := by
  simp [irq_of_not_ended (clearErrors_not_ended s)]

theorem irq_abortJob (s : State) : s.abortJob.irq = (s.cmdErrEn && s.cmdErr) :=
  irq_of_not_ended (.inl rfl)

/-- Settles O28: CLEAR and ABORT leave DONE and ERROR, and CLEAR leaves no CMD_ERR either; with the enable bits 0
each condition is masked. -/
theorem irqIsTheOrOfTheEnabledConditions : Obligations.IrqIsTheOrOfTheEnabledConditions :=
  ⟨irq_iff, fun s => ⟨⟨_, commandDone_eq s.clearErrors, irq_clearErrors s⟩,
    ⟨_, commandDone_eq s.abortJob, irq_abortJob s⟩, _, rfl, rfl⟩⟩

end Sys2Proof.Machine

/-! Reset and hazards (70_reset_and_hazards.md): what a reset leaves (O31), and writes under flow control (O59). -/

namespace Sys2Proof.Machine

/-! ### Reset (70 R260) -/

/-- `s` with everything that the spec gives no reset value taken from `r`: the parameters, the latches, `seq` and the
model's own fields (10 R50). -/
def State.withUnreset (s r : State) : State :=
  { s with
    params := r.params, jw := r.jw, jh := r.jh, jdw := r.jdw, jdh := r.jdh, jwrap := r.jwrap, seq := r.seq
    freeCtr := r.freeCtr, events := r.events, trace := r.trace }

/-- A reset event leaves the registers of `State.reset`, from any state. -/
theorem State.resetBlock_eq (s : State) : s.resetBlock = State.reset.withUnreset s.resetBlock := rfl

theorem step_reset {s : State} {rest : List Event} (h : s.events = .reset :: rest) :
    step s = .next (State.resetBlock { s with events := rest }) := by
  simp [step, h]

/-- Settles O31: both states are `State.reset` but for what has no reset value, and outside RUN the engine has no
step. -/
theorem resetPutsEveryRegisterAtItsResetValue : Obligations.ResetPutsEveryRegisterAtItsResetValue := by
  refine ⟨fun s rest h => ⟨_, step_reset h, rfl, rfl, rfl⟩, fun t ht => ?_⟩
  have hreset : ∃ r, t = State.reset.withUnreset r := by
    obtain rfl | ⟨s, rest, h, hstep⟩ := ht
    · exact ⟨State.reset, rfl⟩
    · obtain rfl : State.resetBlock { s with events := rest } = t := by simpa [step_reset h] using hstep
      exact ⟨_, State.resetBlock_eq _⟩
  obtain ⟨r, rfl⟩ := hreset
  have hstatus : State.reset.statusWord = 0#32 := by decide
  exact ⟨rfl, rfl, rfl, rfl, rfl, rfl, rfl, rfl, rfl, rfl, rfl, rfl, rfl, rfl, rfl, fun _ => rfl, rfl, hstatus,
    engineTurn_of_not_run nofun⟩

/-! ### Flow control (70 R271) -/

/-- The next IN_DATA write of `s` will be accepted, and the engine has every step until then. -/
structure State.TakesWord (s : State) : Prop where
  running : s.jobState = .run
  noEvents : s.events = []
  room : s.inq.length < s.params.inDepth
  remain : s.inRemain ≠ 0#32

theorem engineTurn_inq_length_le {s t : State} (h : engineTurn s = .next t) : t.inq.length ≤ s.inq.length := by
  obtain ⟨-, hi | ⟨w, hi⟩⟩ | ⟨hi, -⟩ := engineTurn_fifos h <;> simp [hi]

/-- The engine only takes words out of INQ, and writes nothing else of what the host looked at. -/
theorem State.TakesWord.engineTurn {s t : State} (h : s.TakesWord) (ht : engineTurn s = .next t) : t.TakesWord := by
  have hframe := engineTurn_frame ht
  have hparams : t.params = s.params := (congrArg State.params hframe :)
  exact
    { running := (engineTurn_jobState ht).trans h.running
      noEvents := (congrArg State.events hframe).trans h.noEvents
      room := hparams ▸ (engineTurn_inq_length_le ht).trans_lt h.room
      remain := (congrArg State.inRemain hframe).trans_ne h.remain }

theorem State.TakesWord.run {s t : State} (h : s.TakesWord) {n : Nat} (hrun : Sys2Proof.core.run n s = .next t) :
    t.TakesWord := by
  induction n generalizing s with
  | zero =>
    cases hrun
    exact h
  | succ n ih =>
    obtain ⟨u, hstep, hrest⟩ := run_succ_next hrun
    rw [step_of_noEvents h.noEvents] at hstep
    exact ih (h.engineTurn hstep) hrest

/-- Settles O59: no engine turn takes back what the host saw, and the accepted write takes one word off IN_REMAIN,
which is not 0. -/
theorem flowControlledWritesAreAccepted : Obligations.FlowControlledWritesAreAccepted := by
  intro s t n v _ hj hev hq hr hrun
  have ht : t.TakesWord := State.TakesWord.run ⟨hj, hev, hq, hr⟩ hrun
  have hremain := ht.remain
  have hcount : (t.inRemain - 1#32).toNat + 1 = t.inRemain.toNat := by bv_omega
  exact ⟨t.acceptedWord v, exec_wrInData_accepted ht.running ht.remain ht.room, ht.running, rfl, hcount⟩

end Sys2Proof.Machine

/-! The decoder and the encoder (30_encoding.md): the fields of a selector, what a frame decodes to, and from it O1
to O3. -/

namespace Sys2Proof.Machine

/-! ### The fields of a selector byte (30 R81) -/

theorem getLsbD_selectorByte (we : Bool) (idx : BitVec 4) (al : BitVec 2) (i : Nat) :
    (selectorByte we idx al).getLsbD i =
      if i < 2 then al.getLsbD i else if i < 6 then idx.getLsbD (i - 2) else decide (i = 6) && we := by
  show (0#1 ++ BitVec.ofBool we ++ idx ++ al : BitVec (1 + 1 + 4 + 2)).getLsbD i = _
  simp only [BitVec.getLsbD_append, BitVec.getLsbD_ofBool, BitVec.getLsbD_zero, Nat.sub_sub]
  by_cases h2 : i < 2
  · rw [if_pos h2, if_pos h2]
  · by_cases h6 : i < 6
    · rw [if_neg h2, if_neg h2, if_pos h6, if_pos (by omega)]
    · by_cases h : i = 6
      · simp [h]
      · rw [if_neg h2, if_neg h2, if_neg h6, if_neg (by omega), if_neg (by omega), decide_eq_false h, Bool.false_and]

theorem extractLsb'_selectorByte (we : Bool) (idx : BitVec 4) (al : BitVec 2) :
    (selectorByte we idx al).extractLsb' 2 4 = idx := by
  apply BitVec.eq_of_getLsbD_eq
  intro i hi
  rw [BitVec.getLsbD_extractLsb', decide_eq_true hi, Bool.true_and, getLsbD_selectorByte, if_neg (by omega),
    if_pos (by omega), Nat.add_sub_cancel_left]

/-- A byte with bit 7 clear is a selector. -/
theorem exists_eq_selectorByte {sel : Byte} {we : Bool} (h7 : sel.getLsbD 7 = false) (h6 : sel.getLsbD 6 = we) :
    ∃ idx al, sel = selectorByte we idx al := by
  refine ⟨sel.extractLsb' 2 4, sel.extractLsb' 0 2, BitVec.eq_of_getLsbD_eq fun i hi => ?_⟩
  rw [getLsbD_selectorByte, BitVec.getLsbD_extractLsb', BitVec.getLsbD_extractLsb']
  by_cases h2 : i < 2
  · rw [if_pos h2, decide_eq_true h2, Bool.true_and, Nat.zero_add]
  · by_cases hi6 : i < 6
    · rw [if_neg h2, if_pos hi6, decide_eq_true (by omega), Bool.true_and, Nat.add_sub_cancel' (by omega)]
    · obtain rfl | rfl : i = 6 ∨ i = 7 := by omega
      · exact h6
      · exact h7

/-- A reserved slot's selector is that of its offset `0x30 + 4k`. -/
theorem selectorByte_rsvdHi (we : Bool) (k : BitVec 2) :
    selectorByte we (3#2 ++ k) 0#2 = accessSelector we (4 * (12 + k.toNat)) := by
  revert we k; decide

/-! ### Decoding by fields -/

/-- AL is looked at first, then WE (30 R81). -/
theorem decodeSelector_selectorByte (we : Bool) (idx : BitVec 4) (al : BitVec 2) (v : Word) :
    decodeSelector (selectorByte we idx al) v =
      if al.getLsbD 0 then .misalignedOdd we idx (al.getLsbD 1) v
      else if al.getLsbD 1 then .misalignedTwo we idx v
      else if we then decodeWrite idx v else decodeRead idx := by
  simp only [decodeSelector, extractLsb'_selectorByte, getLsbD_selectorByte]
  rfl

/-- A BUS frame decodes by its selector; a read carries no data (30 R82). -/
theorem decode_busFrame {we : Bool} {v : Word} (hv : we = true ∨ v = 0#32) (idx : BitVec 4) (al : BitVec 2) :
    decode (busFrame we (selectorByte we idx al) v) = .ok (decodeSelector (selectorByte we idx al) v) := by
  have h7 : (selectorByte we idx al).getLsbD 7 = false := getLsbD_selectorByte we idx al 7
  have h6 : (selectorByte we idx al).getLsbD 6 = we := getLsbD_selectorByte we idx al 6
  cases we
  case false =>
    obtain rfl : v = 0#32 := hv.resolve_left Bool.false_ne_true
    exact decode_readFrame _ h7 h6
  case true => exact decode_writeFrame _ v h7 h6

/-- A word that is none of the four is reserved (30 R84). -/
theorem decodeCommand_reserved {v : Word} (hv : isCommandWord v = false) : decodeCommand v = .cmdReserved v := by
  simp only [isCommandWord, decide_eq_false_iff_not, not_or] at hv
  obtain ⟨h0, h1, h2, h3⟩ := hv
  rw [decodeCommand, if_neg h0, if_neg h1, if_neg h2, if_neg h3]

/-- Settles O2: the frame of each row decodes by the row's selector or command word. -/
theorem decodeOfEncodeIsTheInstruction : Obligations.DecodeOfEncodeIsTheInstruction := by
  intro i hwf
  cases i with
  | rdId | rdCmd | rdStatus | rdConfig | rdWidth | rdHeight | rdIrqEn | rdLevels | rdInData | rdOutData | rdInRemain
  | rdRsvd2C => exact decode_readFrame _ rfl rfl
  | wrId v | wrCmd v | wrStatus v | wrConfig v | wrWidth v | wrHeight v | wrIrqEn v | wrLevels v | wrInData v
  | wrOutData v | wrInRemain v | wrRsvd2C v => exact decode_writeFrame _ v rfl rfl
  | rdRsvdHi k =>
    rw [encode, selectorByte_rsvdHi, decode_readSlot (by omega), decodeRead_rsvdHi]
  | wrRsvdHi k v =>
    rw [encode, selectorByte_rsvdHi, decode_writeSlot (by omega), decodeWrite_rsvdHi]
  | misalignedOdd we idx al1 v =>
    rw [encode, decode_busFrame (by simpa using hwf), decodeSelector_selectorByte]
    cases al1 <;> rfl
  | misalignedTwo we idx v =>
    rw [encode, decode_busFrame (by simpa using hwf), decodeSelector_selectorByte]
    rfl
  | nop | start | abort | clear => exact decode_commandFrame _
  | cmdReserved v =>
    have hv : isCommandWord v = false := by simpa using hwf
    rw [encode, decode_commandFrame, decodeCommand_reserved hv]

/-- Settles O1: the words are fixed, and the decoder is run on each. -/
theorem tableWordsDecodeToTheirRows : Obligations.TableWordsDecodeToTheirRows := by
  unfold Obligations.TableWordsDecodeToTheirRows
  decide

/-! ### Frames that decode -/

/-- `bytes` is the frame of the well-formed instruction `i`. -/
def IsFrameOf (bytes : List Byte) (i : Instr) : Prop := i.wf = true ∧ encode i = bytes

theorem isFrameOf_decodeRead (idx : BitVec 4) :
    IsFrameOf (readFrame (selectorByte false idx 0#2)) (decodeRead idx) := by
  unfold IsFrameOf
  revert idx; decide

theorem isFrameOf_decodeWrite (idx : BitVec 4) (v : Word) :
    IsFrameOf (writeFrame (selectorByte true idx 0#2) v) (decodeWrite idx v) := by
  obtain ⟨k, hk, rfl⟩ : ∃ k < 16, idx = BitVec.ofNat 4 k := ⟨idx.toNat, idx.isLt, by simp⟩
  interval_cases k
  all_goals exact ⟨rfl, rfl⟩

theorem isFrameOf_decodeSelector {we : Bool} {v : Word} (hv : we = true ∨ v = 0#32) (idx : BitVec 4)
    (al : BitVec 2) :
    IsFrameOf (busFrame we (selectorByte we idx al) v) (decodeSelector (selectorByte we idx al) v) := by
  rw [decodeSelector_selectorByte]
  obtain rfl | rfl | rfl | rfl : al = 0#2 ∨ al = 1#2 ∨ al = 2#2 ∨ al = 3#2 := by revert al; decide
  · cases we
    case false => exact isFrameOf_decodeRead idx
    case true => exact isFrameOf_decodeWrite idx v
  all_goals exact ⟨by simpa using hv, rfl⟩

theorem isFrameOf_decodeCommand (v : Word) : IsFrameOf (commandFrame v) (decodeCommand v) := by
  by_cases hv : isCommandWord v = true
  · obtain rfl | rfl | rfl | rfl : v = 0#32 ∨ v = 1#32 ∨ v = 2#32 ∨ v = 3#32 := of_decide_eq_true hv
    all_goals exact ⟨rfl, rfl⟩
  · rw [Bool.not_eq_true] at hv
    rw [decodeCommand_reserved hv]
    exact ⟨congrArg Bool.not hv, rfl⟩

/-- Settles O3, by the frames that decode: a selector alone, a command word, and a selector with data. -/
theorem decodedFramesAreCanonical : Obligations.DecodedFramesAreCanonical := by
  intro bytes i h
  unfold decode at h
  split at h
  case h_1 sel =>
    split at h
    case isTrue => cases h
    case isFalse h7 =>
      split at h
      case isTrue => cases h
      case isFalse h6 =>
        obtain ⟨idx, al, rfl⟩ := exists_eq_selectorByte (Bool.eq_false_of_not_eq_true h7)
          (Bool.eq_false_of_not_eq_true h6)
        cases h
        exact isFrameOf_decodeSelector (.inr rfl) idx al
  case h_2 b0 b1 b2 b3 =>
    cases h
    rw [← commandFrame_ofLanes]
    exact isFrameOf_decodeCommand _
  case h_3 sel b0 b1 b2 b3 =>
    split at h
    case isTrue => cases h
    case isFalse h7 =>
      split at h
      case isTrue h6 =>
        obtain ⟨idx, al, rfl⟩ := exists_eq_selectorByte (Bool.eq_false_of_not_eq_true h7) h6
        cases h
        rw [← commandFrame_ofLanes b0]
        exact isFrameOf_decodeSelector (.inl rfl) idx al
      case isFalse => cases h
  case h_4 => cases h

end Sys2Proof.Machine

/-! Steps and the error entry: who takes a step (O4), an access outside the window (O7), and what the error entry
writes and keeps (O24). -/

namespace Sys2Proof.Machine

/-! ### Who takes a step (70 R280) -/

theorem step_engine {s : State} {rest : List Event} (h : s.events = .engine :: rest) :
    step s = engineTurn { s with events := rest } := by
  simp [step, h]

theorem hostStep_of_decode {r : HostRequest} {s : State} {bytes : List Byte} {i : Instr}
    (hf : fetchRequest s.params r = .frame bytes) (hd : decode bytes = .ok i) : hostStep r s = exec i s := by
  simp [hostStep, hf, hd]

/-- Settles O4, by the oldest event. -/
theorem stepRunsTheDecodedInstruction : Obligations.StepRunsTheDecodedInstruction :=
  ⟨fun _ _ _ _ _ h hf hd => (step_host h).trans (hostStep_of_decode hf hd),
    fun _ _ => ⟨step_of_noEvents, step_engine, step_reset⟩⟩

/-! ### Accesses outside the window (20 R61) -/

theorem fetchRequest_outside {p : Params} {a : Access} (h : ¬ (p.base ≤ a.addr ∧ a.addr < p.base + 64)) :
    fetchRequest p (.access a) = .elsewhere := by
  have hoff : windowOffset p.base a.addr = none := if_neg h
  simp only [fetchRequest, hoff]

/-- Settles O7: no frame is fetched, so the host's step ends at once. -/
theorem accessesOutsideTheWindowLeaveTheBlockAlone : Obligations.AccessesOutsideTheWindowLeaveTheBlockAlone := by
  intro s a rest h hout
  rw [step_host h, hostStep, fetchRequest_outside hout]

/-! ### The error entry (60 R235) -/

theorem leaveRun_of_not_run {s : State} (hj : s.jobState ≠ .run) : s.leaveRun = s := if_neg hj

/-- Settles O24: only START in IDLE and an overrun in RUN raise an error (O25), and outside RUN there is no job to
leave, so the latches and `seq` stay. -/
theorem errorEntryFlushesAndRecords : Obligations.ErrorEntryFlushesAndRecords := by
  refine ⟨fun i s t h hs ht => ?_, fun s c => ?_⟩
  · obtain ⟨-, hidle, -⟩ | ⟨-, -, hrun, -⟩ := exec_raises_error h hs ht
    · exact .inl hidle
    · exact .inr hrun
  · simp +contextual [leaveRun_of_not_run]

end Sys2Proof.Machine
